-- ==== Sys2Proof/Word.lean ====
section
/-! DEFINITION. The two bit-vector types of the RFU: the 32-bit word of the host port, of CMD and of XR
(00_scope.md R8, R9), and the byte of the frame buffer (10_state.md R22). -/

namespace Sys2Proof

/-- A 32-bit word: host data, command words, XR (R8). -/
abbrev Word := BitVec 32

/-- One byte of the frame buffer (R22). -/
abbrev Byte := BitVec 8

end Sys2Proof
end

