-- ==== Sys2Proof/Config.lean ====
section
/-! DEFINITION. The parameters of 00_scope.md R8: those with a value, and the three the spec leaves OPEN, which are
constants with no body, so that no proof can see a value of them. -/

namespace Sys2Proof.Config

/-- `FB_SIZE`, the bytes of the frame buffer (R8, R22). -/
def fbSize : Nat := 128

/-- `FRAME_LEN`, the one frame length DECODE accepts (R8, R122). -/
def frameLen : BitVec 16 := 128

/-- The lower stick clamp bound (R8, R127). -/
def stickLo : Int := 900

/-- The upper stick clamp bound (R8, R127). -/
def stickHi : Int := 3200

/-- `N_SUBSAMPLES`, the touch readings of one frame (R8, R129). -/
def nSubsamples : Nat := 10

/-- FREE VALUE (log 3). The whole of an arbitrary placement of 32 names on the 32 bit positions of BTNMASK; only the
first 17 are used. A permutation, because R125 makes the positions of the buttons distinct. -/
opaque buttonPlace : Equiv.Perm (Fin 32)

/-- `BUTTON_BIT[j]`, OPEN: the position of button j in BTNMASK (R8, R124, R125, D18). Every table of 17 distinct
positions is the restriction of some permutation, so nothing but distinctness is assumed. -/
def buttonBit (j : Fin 17) : Fin 32 := buttonPlace (j.castLE (by decide))

/-- FREE VALUE (log 2). `LAT`, OPEN: the cycles from the acceptance of a command to its completion, by the OP bits of
its word; finite, at least 0 (R8, R198, D22). -/
opaque latency : BitVec 4 → Nat

/-- FREE VALUE (log 4). The byte that the given reset (the first argument counts the resets) leaves at the given
offset of FB: any value (R22, R190, D24). -/
opaque fbDraw : Nat → Nat → Byte

end Sys2Proof.Config
end

