-- ==== Sys2Proof/Syntax.lean ====
section
/-! DEFINITION. The RFU's commands, one constructor per row of spec/opcode_table.json (30_encoding.md R82). -/

namespace Sys2Proof

/-- One command. Operands are unsigned integers as R81 assembles them; `WellFormed` holds the bounds of their fields. -/
inductive Instr where
  /-- `nop` (R160). -/
  | nop
  /-- `extu off, w`: read a w-bit unsigned field at byte offset off (R101). -/
  | extu (off w : Nat)
  /-- `exts off, w`: read a w-bit signed field at byte offset off (R102). -/
  | exts (off w : Nat)
  /-- `extp24 off`: read a packed 24-bit field by the shift-based sign extension (R103). -/
  | extp24 (off : Nat)
  /-- `decode`: decode the frame in FB (R120). -/
  | decode
  /-- `attach v`: open a device lifetime with variant code v (R161). -/
  | attach (v : Nat)
  /-- `detach`: close the device lifetime (R162). -/
  | detach
  deriving DecidableEq, Repr

end Sys2Proof
end

