-- ==== Sys2Proof/Machine/State.lean ====
section
/-! DEFINITION. The state of the RFU, all of it plain data (10_state.md R22 to R43, 20_memory.md R63), the reasons a step
could stop, and the state right after reset (70_reset_and_hazards.md R190, R191). -/

namespace Sys2Proof.Machine

/-- The variant tag CFG.VARIANT (R24). The register's codes 2 and 3 are never held (R161), so the type has no name for
them (log 10). -/
inductive Variant where
  /-- Code 0: buttons, sticks, volume and touch (R3). -/
  | basic
  /-- Code 1: BASIC and the motion fields (R3). -/
  | extended
  deriving DecidableEq, Repr

/-- The result codes of STATUS.ERRCODE (R170). Codes 8 to 15 are never written, so the type has no name for them
(log 10). -/
inductive ResultCode where
  /-- 0: success. -/
  | ok
  /-- 1: DECODE with FLEN other than 128 (R122). -/
  | invalidFrameLength
  /-- 2: a field passes FB[127] (R100). -/
  | range
  /-- 3: WIDTH is 0 or 33 to 63 (R100). -/
  | widthErr
  /-- 4: the word matches no opcode, or a CMD write left a lane out (R84). -/
  | illegalOp
  /-- 5: DECODE with no lifetime open (R121). -/
  | notAttached
  /-- 6: ATTACH with a lifetime open (R161). -/
  | alreadyAttached
  /-- 7: ATTACH with variant code 2 or 3 (R161). -/
  | badVariant
  deriving DecidableEq, Repr

/-- Byte storage in one canonical form: offsets strictly rising, and no entry equal to `Memory.unlisted`. -/
abbrev Memory := List Host.Cell

/-- The decoded-frame result registers and the touch accumulators (R29 to R40, R33), which one commit writes as a whole
(R43). Each at the width its rule gives; how a read extends it is `hostRead` (D19, log 17). -/
structure DecodedFrame where
  /-- BTNMASK (R29). -/
  btnMask : Word
  /-- BTN, bit j for button j (R30). -/
  btn : BitVec 17
  /-- STICK_LX, two's complement (R31). -/
  stickLX : BitVec 16
  /-- STICK_LY (R31). -/
  stickLY : BitVec 16
  /-- STICK_RX (R31). -/
  stickRX : BitVec 16
  /-- STICK_RY (R31). -/
  stickRY : BitVec 16
  /-- VOL (R32). -/
  vol : Byte
  /-- TSUMX (R33). -/
  tsumX : BitVec 16
  /-- TSUMY (R33). -/
  tsumY : BitVec 16
  /-- TOUCH_X (R34). -/
  touchX : BitVec 12
  /-- TOUCH_Y (R35). -/
  touchY : BitVec 13
  /-- PRES (R36). -/
  pres : BitVec 12
  /-- TACT (R37). -/
  tact : Bool
  /-- ACC_X, two's complement (R38). -/
  accX : BitVec 16
  /-- ACC_Y (R38). -/
  accY : BitVec 16
  /-- ACC_Z (R38). -/
  accZ : BitVec 16
  /-- GYR_X, a signed 24-bit value in its 32-bit sign extension (R39). -/
  gyrX : Word
  /-- GYR_Y (R39). -/
  gyrY : Word
  /-- GYR_Z (R39). -/
  gyrZ : Word
  /-- MAG_X, two's complement (R40). -/
  magX : BitVec 16
  /-- MAG_Y (R40). -/
  magY : BitVec 16
  /-- MAG_Z (R40). -/
  magZ : BitVec 16
  deriving DecidableEq, Repr

/-- Every result register 0: what reset and a successful ATTACH leave (R161, R190). -/
def DecodedFrame.cleared : DecodedFrame :=
  ⟨0, 0, 0, 0, 0, 0, 0, 0, 0, 0, 0, 0, false, 0, 0, 0, 0, 0, 0, 0, 0, 0⟩

/-- PENDING (R41): an accepted command word, with the byte enables of the CMD write that issued it (R68, log 11). -/
structure Command where
  word : Word
  be : BitVec 4
  deriving DecidableEq, Repr

/-- What the host requests on its port in one cycle (R63): nothing, or one transaction on a word address (log 6). -/
inductive HostRequest where
  /-- `h_req = 0`. -/
  | idle
  /-- `h_we = 0`: read the word at `addr`. -/
  | read (addr : BitVec 6)
  /-- `h_we = 1`: write the enabled lanes of `data` to the word at `addr`. -/
  | write (addr : BitVec 6) (be : BitVec 4) (data : Word)
  deriving DecidableEq, Repr

/-- The state of one RFU, with what its port still has to receive. -/
structure State where
  /-- FB as far as `fbWritten` says it was written (R22, log 5). -/
  fb : Memory
  /-- Bit a is 1 once a host write has replaced the reset draw of FB[a] (R22, log 5). -/
  fbWritten : BitVec 128
  /-- MODEL'S OWN (logs 4, 13): how many resets have happened, the counter `Config.fbDraw` is applied to. -/
  resets : Nat
  /-- FLEN (R23). -/
  flen : BitVec 16
  /-- CFG.ATTACHED (R24). -/
  attached : Bool
  /-- CFG.VARIANT (R24). -/
  variant : Variant
  /-- STATUS.ERR_ANY (R25). -/
  errAny : Bool
  /-- STATUS.ERRCODE (R25, R170). -/
  errCode : ResultCode
  /-- XR (R27). -/
  xr : Word
  /-- FSEQ (R28). -/
  fseq : BitVec 16
  /-- The result registers and the touch accumulators (R29 to R40, R33, R43). -/
  frame : DecodedFrame
  /-- PENDING; STATUS.BUSY is 1 exactly while it holds a command (R41, log 10). -/
  pending : Option Command
  /-- MODEL'S OWN (logs 1, 13): the cycles of `LAT` still to pass before the pending command completes. -/
  wait : Nat
  /-- INPUT (log 7): the levels of `rst` still to come, this cycle's first; no entry is a deasserted cycle. -/
  rstLine : List Bool
  /-- INPUT (log 6): the host's requests still to come, the next one first; no entry is an idle cycle. -/
  hostQueue : List HostRequest
  /-- `h_ack` in the last cycle (R63, log 9). -/
  ack : Bool
  /-- `h_rdata` in the last cycle; a value only where the spec calls it valid (R63, log 8). -/
  rdata : Option Word
  /-- `cmd_done` in the last cycle (R63, R174, log 9). -/
  cmdDone : Bool
  /-- `frame_commit` in the last cycle (R63, R174, log 9). -/
  frameCommit : Bool
  deriving DecidableEq, Repr

/-- The reasons a step could stop the machine. There is none: the RFU has no traps, and every error of a command is a
result code in STATUS after which the machine goes on (R171, R175, log 18). -/
inductive Fault where
  deriving DecidableEq, Repr

/-- The reasons a step could refuse an instruction. -/
inductive Refusal where
  /-- Raised only by an arm of `exec` for an instruction that has no meaning yet (safe: nothing follows from it). No arm
  of this model raises it. -/
  | notModelled (mnemonic : String)
  deriving DecidableEq, Repr

/-- The RFU right after reset (R190, R191): every register 0, no command pending, the outputs deasserted, and no byte of
FB written, so that each reads as its draw. The inputs and the model's own counters start empty and at 0 (logs 6, 7, 13). -/
def State.reset : State where
  fb := []
  fbWritten := 0
  resets := 0
  flen := 0
  attached := false
  variant := .basic
  errAny := false
  errCode := .ok
  xr := 0
  fseq := 0
  frame := .cleared
  pending := none
  wait := 0
  rstLine := []
  hostQueue := []
  ack := false
  rdata := none
  cmdDone := false
  frameCommit := false

end Sys2Proof.Machine
end

