-- ==== Sys2Proof/Machine/Ops.lean ====
section
/-! DEFINITION. The named operations over storage and registers: the canonical byte storage, the frame buffer, a command's
staged writes, and its completion, with success or with an error (10_state.md R22, R41; 60_exceptions.md R171, R176). -/

namespace Sys2Proof.Machine

/-! ### Canonical byte storage -/

/-- What an address with no entry reads as (log 5). -/
def Memory.unlisted : Byte := 0

/-- Read one byte. -/
def Memory.read : Memory → Nat → Byte
  | [], _ => Memory.unlisted
  | (k, v) :: m, a => if k = a then v else Memory.read m a

/-- Write one byte, keeping the canonical form: the value of an unlisted address takes no entry. -/
def Memory.write : Memory → Nat → Byte → Memory
  | [], a, v => if v = Memory.unlisted then [] else [(a, v)]
  | (k, x) :: m, a, v =>
    if a < k then (if v = Memory.unlisted then (k, x) :: m else (a, v) :: (k, x) :: m)
    else if a = k then (if v = Memory.unlisted then m else (a, v) :: m)
    else (k, x) :: Memory.write m a v

/-- The canonical form from a lowest admissible address on. -/
def Memory.wfFrom : Nat → Memory → Bool
  | _, [] => true
  | lo, (k, v) :: m => decide (lo ≤ k) && (v != Memory.unlisted) && Memory.wfFrom (k + 1) m

/-- The canonical form: addresses strictly rising, no entry equal to what an unlisted address reads as. -/
def Memory.wf (m : Memory) : Bool := Memory.wfFrom 0 m

/-! ### The frame buffer (R22, R61, R67) -/

/-- `FB[a]`: the last byte the host wrote there since the last reset, else the byte that reset drew, a free value (R22,
R190, logs 4 and 5). No offset above 127 is ever written, and no operation of the spec reads one. -/
def State.fbByte (s : State) (a : Nat) : Byte :=
  if s.fbWritten.getLsbD a then Memory.read s.fb a else Config.fbDraw s.resets a

/-- `FB[a] <- v` (R67). Every caller's `a` is an offset 0 to 127. -/
def State.setFbByte (s : State) (a : Nat) (v : Byte) : State :=
  { s with fb := Memory.write s.fb a v, fbWritten := s.fbWritten ||| (1#128 <<< a) }

/-- STATUS.BUSY and the `busy` output (R25, R41, R63). -/
def State.busy (s : State) : Bool := s.pending.isSome

/-! ### Staged writes: the registers commands write (R41) -/

/-- `XR <- v` (R27). -/
def State.setXr (s : State) (v : Word) : State := { s with xr := v }

/-- `CFG.ATTACHED <- a; CFG.VARIANT <- v` (R24). -/
def State.setLifetime (s : State) (a : Bool) (v : Variant) : State := { s with attached := a, variant := v }

/-- Write the result register file as a whole (R43): the frame registers and FSEQ. -/
def State.setFrame (s : State) (f : DecodedFrame) (n : BitVec 16) : State := { s with frame := f, fseq := n }

/-! ### Completion (R41, R171) -/

/-- The one completion step of every command: STATUS.ERRCODE is written, ERR_ANY is set by a nonzero code and kept by
code 0, BUSY falls, and `cmd_done` is pulsed (R41, R171, R174). -/
def State.finish (s : State) (c : ResultCode) : State :=
  { s with
    errCode := c
    errAny := s.errAny || (c != .ok)
    pending := none
    wait := 0
    cmdDone := true
    frameCommit := false }

/-- `complete(OK)` over a command's staged writes (R10, R171). -/
def State.complete (staged : State) : State := staged.finish .ok

/-- `raise Error(c)`: the command ends at once on the state it found, so every staged write is discarded and only STATUS
is written (R10, R171). The RFU's whole exception entry: no state is saved, no mode changes and control goes nowhere
(R175). -/
def State.raise (found : State) (c : ResultCode) : State := found.finish c

/-- A successful DECODE's completion, which also pulses `frame_commit` (R141, R174). -/
def State.commitFrame (staged : State) : State := { staged.complete with frameCommit := true }

/-- The host's answer to an error, in place of a return from it (R176): ERR_ANY is cleared, ERRCODE stays (R69). -/
def State.clearErrAny (s : State) : State := { s with errAny := false }

/-! ### Acceptance (R41) -/

/-- PENDING <- word, BUSY <- 1, with `n` cycles to pass until the completion (R41, R68). -/
def State.accept (s : State) (c : Command) (n : Nat) : State := { s with pending := some c, wait := n }

end Sys2Proof.Machine
end

