-- ==== Sys2Proof/Machine/Operands.lean ====
section
/-! DEFINITION. The primitives of 00_scope.md R9 and R10, and the operand forms built from them: the little-endian field
(20_memory.md R61), the width and range checks (40_field_extract.md R100), the packed 24-bit field (R103). -/

namespace Sys2Proof.Machine

/-- `MemRead(off, n)` over a byte buffer: the n-byte little-endian value (R10, R61). -/
def memRead (b : Nat → Byte) (off : Nat) : Nat → Nat
  | 0 => 0
  | n + 1 => (b off).toNat + 256 * memRead b (off + 1) n

/-- `u_w(v[w-1:0])`: the low w bits of v (R9). -/
def lowBits (w v : Nat) : Nat := v % 2 ^ w

/-- `s_w(v[w-1:0])`: the low w bits of v in two's complement (R9). -/
def signedBits (w v : Nat) : Int :=
  if 2 ^ (w - 1) ≤ lowBits w v then (lowBits w v : Int) - (2 : Int) ^ w else (lowBits w v : Int)

/-- `zext_32(v[w-1:0])` (R10). -/
def zext32 (w v : Nat) : Word := BitVec.ofNat 32 (lowBits w v)

/-- `sext_32(v[w-1:0])` = `bits_32(s_w(v))` (R10). -/
def sext32 (w v : Nat) : Word := BitVec.ofInt 32 (signedBits w v)

/-- `asr_32(t, n)`: the arithmetic right shift of a word (R10). -/
def asr32 (t : Word) (n : Nat) : Word := t.sshiftRight n

/-- `clamp(v, lo, hi)` on integers (R10). -/
def clamp (v lo hi : Int) : Int := if v < lo then lo else if hi < v then hi else v

/-- `{b2, b1, b0, 0x00}`, the 32-bit intermediate of a packed 24-bit field (R103). -/
def packedWord (b0 b1 b2 : Byte) : Word := b2 ++ b1 ++ b0 ++ 0#8

/-- The packed 24-bit field at `off`, sign-extended by the shift (R62, R103, R137). -/
def packed24 (b : Nat → Byte) (off : Nat) : Word := asr32 (packedWord (b off) (b (off + 1)) (b (off + 2))) 8

/-- `nbytes(w) = ceil(w/8)` (R100). -/
def nbytes (w : Nat) : Nat := (w + 7) / 8

/-- The checks and the read of a w-bit field at `off`: WIDTH_ERR first, then RANGE against the physical FB, else the
little-endian value of its bytes (R100, R172). -/
def fieldAt (b : Nat → Byte) (off w : Nat) : Except ResultCode Nat :=
  if w < 1 ∨ 32 < w then .error .widthErr
  else if Config.fbSize < off + nbytes w then .error .range
  else .ok (memRead b off (nbytes w))

/-- The check and the read of a packed 24-bit field at `off` (R103). -/
def packedAt (b : Nat → Byte) (off : Nat) : Except ResultCode Word :=
  if Config.fbSize < off + 3 then .error .range else .ok (packed24 b off)

/-- The variant a code of ATTACH's VAR field names; 2 and 3 are reserved (R161). -/
def variantOfCode : Nat → Option Variant
  | 0 => some .basic
  | 1 => some .extended
  | _ => none

/-- The n-bit pattern whose bit j is `f j`. -/
def gather : (n : Nat) → (Fin n → Bool) → BitVec n
  | 0, _ => 0#0
  | n + 1, f => BitVec.cons (f (Fin.last n)) (gather n fun j => f j.castSucc)

/-- `f 0 + … + f (n-1)`, the exact integer sum of n lanes (R130). -/
def sumLanes (f : Nat → Nat) : Nat → Nat
  | 0 => 0
  | n + 1 => sumLanes f n + f n

end Sys2Proof.Machine
end

