-- ==== Sys2Proof/Machine/Flags.lean ====
section
/-! DEFINITION. The flag state and its words: the codes of ERRCODE and VARIANT, STATUS and CFG as a host reads them
(10_state.md R24, R25, R42), the W1C write of STATUS (20_memory.md R69), and TACT (41_frame_decode.md R135). -/

namespace Sys2Proof.Machine

/-- The number of a result code (R170). -/
def ResultCode.bits : ResultCode → BitVec 4
  | .ok => 0
  | .invalidFrameLength => 1
  | .range => 2
  | .widthErr => 3
  | .illegalOp => 4
  | .notAttached => 5
  | .alreadyAttached => 6
  | .badVariant => 7

/-- The number of a variant (R24). -/
def Variant.bits : Variant → BitVec 2
  | .basic => 0
  | .extended => 1

/-- STATUS as a host reads it: ERRCODE in 7:4, ERR_ANY in 1, BUSY in 0, the rest 0 (R25). -/
def State.statusWord (s : State) : Word :=
  0#24 ++ s.errCode.bits ++ 0#2 ++ BitVec.ofBool s.errAny ++ BitVec.ofBool s.busy

/-- CFG as a host reads it: ATTACHED in 8, VARIANT in 1:0, the rest 0 (R24). -/
def State.cfgWord (s : State) : Word :=
  0#23 ++ BitVec.ofBool s.attached ++ 0#6 ++ s.variant.bits

/-- A STATUS write: lane 0 enabled with bit 1 set clears ERR_ANY, and every other bit is ignored (R69). -/
def State.writeStatus (s : State) (be : BitVec 4) (d : Word) : State :=
  if be.getLsbD 0 && d.getLsbD 1 then s.clearErrAny else s

/-- TouchActive (R135). -/
def touchActive (pres : BitVec 12) : Bool := pres != 0

end Sys2Proof.Machine
end

