-- ==== Sys2Proof/Machine/Control.lean ====
section
/-! DEFINITION. The control family (42_control.md): NOP, ATTACH, DETACH. -/

namespace Sys2Proof.Machine

/-- NOP (R160). -/
def execNop (s : State) : Host.Outcome State Fault Refusal := .next s.complete

/-- ATTACH (R161): ALREADY_ATTACHED, then BAD_VARIANT, else the lifetime is opened and the result register file, FSEQ
and the touch sums cleared. -/
def execAttach (v : Nat) (s : State) : Host.Outcome State Fault Refusal :=
  if s.attached = true then .next (s.raise .alreadyAttached)
  else
    match variantOfCode v with
    | none => .next (s.raise .badVariant)
    | some t => .next ((s.setLifetime true t).setFrame .cleared 0).complete

/-- DETACH (R162): unconditional. -/
def execDetach (s : State) : Host.Outcome State Fault Refusal :=
  .next (s.setLifetime false .basic).complete

end Sys2Proof.Machine
end

