-- ==== Sys2Proof/Machine/Extract.lean ====
section
/-! DEFINITION. The field extraction family (40_field_extract.md): EXTU, EXTS, EXTP24. They read the command word and FB
only, and write XR only (R100, R105). -/

namespace Sys2Proof.Machine

/-- EXTU (R101). -/
def execExtu (off w : Nat) (s : State) : Host.Outcome State Fault Refusal :=
  match fieldAt s.fbByte off w with
  | .error c => .next (s.raise c)
  | .ok v => .next (s.setXr (zext32 w v)).complete

/-- EXTS (R102). -/
def execExts (off w : Nat) (s : State) : Host.Outcome State Fault Refusal :=
  match fieldAt s.fbByte off w with
  | .error c => .next (s.raise c)
  | .ok v => .next (s.setXr (sext32 w v)).complete

/-- EXTP24 (R103). -/
def execExtp24 (off : Nat) (s : State) : Host.Outcome State Fault Refusal :=
  match packedAt s.fbByte off with
  | .error c => .next (s.raise c)
  | .ok v => .next (s.setXr v).complete

end Sys2Proof.Machine
end

