-- ==== Sys2Proof/Machine/FrameDecode.lean ====
section
/-! DEFINITION. The frame decode family (41_frame_decode.md): the source's `decode(buffer, variant)` as a function of the
buffer's bytes, one definition per step, and DECODE over it. -/

namespace Sys2Proof.Machine

/-- BTNMASK: `{FB[4], FB[80], FB[2], FB[3]}` (R123). -/
def buttonMask (b : Nat → Byte) : Word := b 4 ++ b 80 ++ b 2 ++ b 3

/-- BTN: bit j is the mask's bit at button j's position (R124). -/
def buttons (pos : Fin 17 → Fin 32) (mask : Word) : BitVec 17 := gather 17 fun j => mask.getLsbD (pos j).val

/-- Stick axis i: the signed little-endian pair at 6 + 2i, clamped (R126, R127). -/
def stickAxis (b : Nat → Byte) (i : Nat) : BitVec 16 :=
  BitVec.ofInt 16 (clamp (signedBits 16 (memRead b (6 + 2 * i) 2)) Config.stickLo Config.stickHi)

/-- The 12-bit touch coordinate in a low byte and the low nibble of the byte after it (R129). -/
def touch12 (b : Nat → Byte) (a : Nat) : Nat := ((b (a + 1)).extractLsb' 0 4 ++ b a).toNat

/-- Subsample i's x (R129). -/
def touchSampleX (b : Nat → Byte) (i : Nat) : Nat := touch12 b (36 + 4 * i)

/-- Subsample i's y (R129). -/
def touchSampleY (b : Nat → Byte) (i : Nat) : Nat := touch12 b (36 + 4 * i + 2)

/-- The sum TSUMX holds (R130). -/
def touchSumX (b : Nat → Byte) : Nat := sumLanes (touchSampleX b) Config.nSubsamples

/-- The sum TSUMY holds (R130). -/
def touchSumY (b : Nat → Byte) : Nat := sumLanes (touchSampleY b) Config.nSubsamples

/-- Pressure group k: bits 6:4 of FB[37 + 2k] (R134). -/
def pressGroup (b : Nat → Byte) (k : Nat) : Nat := ((b (37 + 2 * k)).extractLsb' 4 3).toNat

/-- PRES: group k at bits 3k+2 : 3k (R134). -/
def pressMask (b : Nat → Byte) : BitVec 12 := BitVec.ofNat 12 (sumLanes (fun k => pressGroup b k <<< (3 * k)) 4)

/-- A signed 16-bit little-endian motion field, as the 16-bit pattern its register holds (R136, R138). -/
def motion16 (b : Nat → Byte) (off : Nat) : BitVec 16 := BitVec.ofNat 16 (memRead b off 2)

/-- The fields every variant decodes, the motion registers 0 (R123 to R135, R139). -/
def decodeBasic (pos : Fin 17 → Fin 32) (b : Nat → Byte) : DecodedFrame :=
  { DecodedFrame.cleared with
    btnMask := buttonMask b
    btn := buttons pos (buttonMask b)
    stickLX := stickAxis b 0
    stickLY := stickAxis b 1
    stickRX := stickAxis b 2
    stickRY := stickAxis b 3
    vol := b 14
    tsumX := BitVec.ofNat 16 (touchSumX b)
    tsumY := BitVec.ofNat 16 (touchSumY b)
    touchX := BitVec.ofNat 12 (touchSumX b / 10)
    touchY := BitVec.ofNat 13 (4096 - touchSumY b / 10)
    pres := pressMask b
    tact := touchActive (pressMask b) }

/-- The motion fields of the EXTENDED variant (R136 to R138). -/
def withMotion (b : Nat → Byte) (f : DecodedFrame) : DecodedFrame :=
  { f with
    accX := motion16 b 15
    accY := motion16 b 17
    accZ := motion16 b 19
    gyrX := packed24 b 21
    gyrY := packed24 b 24
    gyrZ := packed24 b 27
    magX := motion16 b 30
    magY := motion16 b 32
    magZ := motion16 b 34 }

/-- `decode(buffer, variant)` (R120, R142): a function of the buffer, the variant and `BUTTON_BIT` alone. -/
def decodeFrame (pos : Fin 17 → Fin 32) (b : Nat → Byte) : Variant → DecodedFrame
  | .basic => decodeBasic pos b
  | .extended => withMotion b (decodeBasic pos b)

/-- DECODE (R120): the attachment check, the length check, then one commit of the whole frame with FSEQ counted up
modulo 65536 (R121, R122, R141). -/
def execDecode (s : State) : Host.Outcome State Fault Refusal :=
  if s.attached = false then .next (s.raise .notAttached)
  else if s.flen ≠ Config.frameLen then .next (s.raise .invalidFrameLength)
  else .next (s.setFrame (decodeFrame Config.buttonBit s.fbByte s.variant) (s.fseq + 1)).commitFrame

end Sys2Proof.Machine
end

