-- ==== Sys2Proof/Machine/Dispatch.lean ====
section
/-! DEFINITION. The completion of a command (10_state.md R41), one arm per constructor of Instr. -/

namespace Sys2Proof.Machine

def exec (i : Instr) (s : State) : Host.Outcome State Fault Refusal :=
  match i with
  | .nop => Sys2Proof.Machine.execNop s
  | .extu off w => Sys2Proof.Machine.execExtu off w s
  | .exts off w => Sys2Proof.Machine.execExts off w s
  | .extp24 off => Sys2Proof.Machine.execExtp24 off s
  | .decode => Sys2Proof.Machine.execDecode s
  | .attach v => Sys2Proof.Machine.execAttach v s
  | .detach => Sys2Proof.Machine.execDetach s

end Sys2Proof.Machine
end

