-- ==== Sys2Proof/Decode.lean ====
section
/-! DEFINITION. Command words (30_encoding.md): the field layout (R80, R81), the match and mask of each opcode (R83), the
decoder, total on every word and rejecting by name (R84), and after it the encoder (R86). -/

namespace Sys2Proof

/-- Why a CMD write is no legal command (R84). -/
inductive DecodeError where
  /-- OP in 0x7 to 0xF (R82, R84 a). -/
  | reservedOpcode
  /-- A 1 in a bit outside OP and the live fields of OP (R83, R84 a). -/
  | nonLiveBit
  /-- The CMD write did not enable all four lanes (R68, R84 b). -/
  | partialWrite
  deriving DecidableEq, Repr

/-- `OP`, word[3:0] (R80). -/
def opField (w : Word) : BitVec 4 := w.extractLsb' 0 4

/-- `OFFSET`, word[14:8] (R80, R81). -/
def offField (w : Word) : BitVec 7 := w.extractLsb' 8 7

/-- `WIDTH`, word[21:16] (R80, R81). -/
def widthField (w : Word) : BitVec 6 := w.extractLsb' 16 6

/-- `VAR`, word[25:24] (R80, R81). -/
def varField (w : Word) : BitVec 2 := w.extractLsb' 24 2

/-- One row of the match/mask table (R83), with the command its live fields make. -/
structure OpRow where
  value : Word
  mask : Word
  op : BitVec 4
  deriving DecidableEq, Repr

/-- The match/mask table of R83, row by row. -/
def opRows : List OpRow :=
  [ ⟨0x00000000, 0xFFFFFFFF, 0x0⟩,
    ⟨0x00000001, 0xFFC080FF, 0x1⟩,
    ⟨0x00000002, 0xFFC080FF, 0x2⟩,
    ⟨0x00000003, 0xFFFF80FF, 0x3⟩,
    ⟨0x00000004, 0xFFFFFFFF, 0x4⟩,
    ⟨0x00000005, 0xFCFFFFFF, 0x5⟩,
    ⟨0x00000006, 0xFFFFFFFF, 0x6⟩ ]

/-- A word selects a row when `(word & mask) = match` (R83). -/
def OpRow.selects (r : OpRow) (w : Word) : Bool := w &&& r.mask == r.value

/-- The command a word makes once its opcode is known (R81, R82); none for a reserved opcode. -/
def assemble (op : BitVec 4) (w : Word) : Option Instr :=
  match op.toNat with
  | 0 => some .nop
  | 1 => some (.extu (offField w).toNat (widthField w).toNat)
  | 2 => some (.exts (offField w).toNat (widthField w).toNat)
  | 3 => some (.extp24 (offField w).toNat)
  | 4 => some .decode
  | 5 => some (.attach (varField w).toNat)
  | 6 => some .detach
  | _ => none

/-- The decoder: the row the word selects (R83), else the reason there is none (R84 a). -/
def decodeWord (w : Word) : Except DecodeError Instr :=
  match opRows.find? (fun r => r.selects w) with
  | some r =>
    match assemble r.op w with
    | some i => .ok i
    | none => .error .reservedOpcode
  | none => if 7 ≤ (opField w).toNat then .error .reservedOpcode else .error .nonLiveBit

/-- What a CMD write with byte enables `be` issues: the decoded word, or an illegal command where a lane is missing
(R68, R84 b). -/
def decodeIssued (be : BitVec 4) (w : Word) : Except DecodeError Instr :=
  if be = 0b1111 then decodeWord w else .error .partialWrite

/-- The word of a row of spec/opcode_table.json whose low `nbits` bits are `w` and whose other bits are 0. A command is
always one 32-bit word (R80, R85). -/
def tableWord (nbits w : Nat) : Word := BitVec.ofNat 32 (w % 2 ^ nbits)

/-- The instruction the decoder reads from that word. -/
def decodeTableWord (nbits w : Nat) : Option Instr := (decodeWord (tableWord nbits w)).toOption

/-- The layout string of R80, bit 31 first: `000000VV 00WWWWWW 0FFFFFFF 0000OOOO`. -/
def layoutWord (v : BitVec 2) (w : BitVec 6) (off : BitVec 7) (op : BitVec 4) : Word :=
  0#6 ++ v ++ 0#2 ++ w ++ 0#1 ++ off ++ 0#4 ++ op

/-- The encoder: the word of a well-formed command (R80, R82, R86). -/
def encode : Instr → Word
  | .nop => layoutWord 0 0 0 0x0
  | .extu off w => layoutWord 0 (BitVec.ofNat 6 w) (BitVec.ofNat 7 off) 0x1
  | .exts off w => layoutWord 0 (BitVec.ofNat 6 w) (BitVec.ofNat 7 off) 0x2
  | .extp24 off => layoutWord 0 0 (BitVec.ofNat 7 off) 0x3
  | .decode => layoutWord 0 0 0 0x4
  | .attach v => layoutWord (BitVec.ofNat 2 v) 0 0 0x5
  | .detach => layoutWord 0 0 0 0x6

end Sys2Proof
end

