-- ==== Sys2Proof/Machine/Port.lean ====
section
/-! DEFINITION. The host port (20_memory.md): the register map of R66 as a read and a write of one word, and one cycle of
the port with its acknowledge and its stall (R63, R74). -/

namespace Sys2Proof.Machine

/-- The byte address of a word address (R63, R64). -/
def byteAddr (a : BitVec 6) : Nat := 4 * a.toNat

/-- Lane i of a word (R64). -/
def lane (d : Word) (i : Nat) : Byte := d.extractLsb' (8 * i) 8

/-- A read of the FB window: `{FB[a+3], FB[a+2], FB[a+1], FB[a]}` (R67). -/
def State.fbWord (s : State) (a : Nat) : Word :=
  s.fbByte (a + 3) ++ s.fbByte (a + 2) ++ s.fbByte (a + 1) ++ s.fbByte a

/-- `Read(a)` (R66 to R72, D19): unsigned registers zero-extended, signed ones sign-extended; CMD and the reserved
addresses read 0. It is a value and no state: a read has no side effect (R72). -/
def hostRead (s : State) (addr : BitVec 6) : Word :=
  if byteAddr addr < 0x80 then s.fbWord (byteAddr addr)
  else
    match byteAddr addr with
    | 0x84 => s.statusWord
    | 0x88 => s.flen.setWidth 32
    | 0x8C => s.cfgWord
    | 0x90 => s.xr
    | 0x94 => s.fseq.setWidth 32
    | 0x98 => s.frame.tsumX.setWidth 32
    | 0x9C => s.frame.tsumY.setWidth 32
    | 0xA0 => s.frame.btnMask
    | 0xA4 => s.frame.btn.setWidth 32
    | 0xA8 => s.frame.stickLX.signExtend 32
    | 0xAC => s.frame.stickLY.signExtend 32
    | 0xB0 => s.frame.stickRX.signExtend 32
    | 0xB4 => s.frame.stickRY.signExtend 32
    | 0xB8 => s.frame.vol.setWidth 32
    | 0xBC => s.frame.touchX.setWidth 32
    | 0xC0 => s.frame.touchY.setWidth 32
    | 0xC4 => s.frame.pres.setWidth 32
    | 0xC8 => (BitVec.ofBool s.frame.tact).setWidth 32
    | 0xCC => s.frame.accX.signExtend 32
    | 0xD0 => s.frame.accY.signExtend 32
    | 0xD4 => s.frame.accZ.signExtend 32
    | 0xD8 => s.frame.gyrX
    | 0xDC => s.frame.gyrY
    | 0xE0 => s.frame.gyrZ
    | 0xE4 => s.frame.magX.signExtend 32
    | 0xE8 => s.frame.magY.signExtend 32
    | 0xEC => s.frame.magZ.signExtend 32
    | _ => 0

/-- One lane of an FB window write (R67). -/
def State.writeLane (s : State) (a : Nat) (be : BitVec 4) (d : Word) (i : Nat) : State :=
  if be.getLsbD i then s.setFbByte (a + i) (lane d i) else s

/-- An FB window write, lane by lane (R67). -/
def State.writeFbWord (s : State) (a : Nat) (be : BitVec 4) (d : Word) : State :=
  (((s.writeLane a be d 0).writeLane a be d 1).writeLane a be d 2).writeLane a be d 3

/-- An FLEN write: lanes 0 and 1 (R70). -/
def State.writeFlen (s : State) (be : BitVec 4) (d : Word) : State :=
  { s with
    flen :=
      (if be.getLsbD 1 then lane d 1 else s.flen.extractLsb' 8 8) ++
        (if be.getLsbD 0 then lane d 0 else s.flen.extractLsb' 0 8) }

/-- A CMD write: the command is accepted, whole or partial, and `LAT` starts to run (R41, R68, log 2). -/
def State.issue (s : State) (be : BitVec 4) (d : Word) : State :=
  s.accept ⟨d, be⟩ (Config.latency (opField d))

/-- `Write(a, be, d)` where the stall rule lets it through (R66 to R71): FB, CMD, STATUS and FLEN take writes, every
other address ignores them. -/
def hostWrite (s : State) (addr : BitVec 6) (be : BitVec 4) (d : Word) : State :=
  if byteAddr addr < 0x80 then s.writeFbWord (byteAddr addr) be d
  else
    match byteAddr addr with
    | 0x80 => s.issue be d
    | 0x84 => s.writeStatus be d
    | 0x88 => s.writeFlen be d
    | _ => s

/-- The port acknowledges its request: the queue moves on, and a read's data are valid (R63). -/
def State.acknowledge (s : State) (rest : List HostRequest) (data : Option Word) : State :=
  { s with hostQueue := rest, ack := true, rdata := data }

/-- An idle cycle of the port passes. -/
def State.skipIdle (s : State) (rest : List HostRequest) : State := { s with hostQueue := rest }

/-- One cycle of the port: the next request is performed, but a write is held while BUSY = 1 (R74, R195). -/
def portCycle (s : State) : State :=
  match s.hostQueue with
  | [] => s
  | .idle :: q => s.skipIdle q
  | .read a :: q => s.acknowledge q (some (hostRead s a))
  | .write a be d :: q => if s.busy then s else (hostWrite s a be d).acknowledge q none

end Sys2Proof.Machine
end

