-- ==== Sys2Proof/Machine/Cycle.lean ====
section
/-! DEFINITION. The parts of one clock cycle (20_memory.md R63; logs 1, 7, 12): reset, the cycle's start, the pending
command's progress and completion, and the placing of a command word. -/

namespace Sys2Proof.Machine

/-- `rst` in this cycle (R63, log 7). -/
def State.rstAsserted (s : State) : Bool := s.rstLine.headD false

/-- A cycle with `rst = 1` (R173, R190): every register takes its reset value, FB is drawn anew, the pending command is
abandoned, and the request of the cycle is ignored and never performed (log 7). -/
def State.resetCycle (s : State) : State :=
  { State.reset with resets := s.resets + 1, rstLine := s.rstLine.tail, hostQueue := s.hostQueue.tail }

/-- A cycle with `rst = 0` starts: the pulses and the acknowledge of the last cycle are over (R63, R174). -/
def State.beginCycle (s : State) : State :=
  { s with rstLine := s.rstLine.tail, ack := false, rdata := none, cmdDone := false, frameCommit := false }

/-- One cycle of `LAT` passes (R41, log 1). -/
def State.countDown (s : State) : State := { s with wait := s.wait - 1 }

/-- The completion of an accepted command: its meaning, or ILLEGAL_OP where the write issued no legal command (R41,
R84). -/
def completeCommand (c : Command) (s : State) : Host.Outcome State Fault Refusal :=
  match decodeIssued c.be c.word with
  | .ok i => exec i s
  | .error _ => .next (s.raise .illegalOp)

/-- The RFU's own progress in a cycle: the pending command completes once `LAT` has passed (R41, R198). -/
def advance (s : State) : Host.Outcome State Fault Refusal :=
  match s.pending with
  | none => .next s
  | some c => if s.wait = 0 then completeCommand c s else .next s.countDown

/-- One rising edge of `clk`: reset takes precedence (R172), else the port's transaction, then the command's progress
(log 1). -/
def clockEdge (s : State) : Host.Outcome State Fault Refusal :=
  if s.rstAsserted then .next s.resetCycle else advance (portCycle s.beginCycle)

/-- A levels list with this cycle's level low and the others as they were. -/
def deassert : List Bool → List Bool
  | true :: r => false :: r
  | r => r

/-- The whole-word CMD write of `w` accepted with its `LAT` already passed, and `rst` low in the coming cycle (log 12). -/
def State.placeCommand (s : State) (w : Word) : State :=
  { s.accept ⟨w, 0b1111⟩ 0 with rstLine := deassert s.rstLine }

end Sys2Proof.Machine
end

