-- ==== Sys2Proof/Safety.lean ====
section
/-! DEFINITION. The terms claims are written in: what a command leaves alone, what a success and a failure report, a legal
decoded frame, the invariant of a safe state, and the bits of the frame buffer a DECODE reads. -/

namespace Sys2Proof.Machine

/-! ### What a command leaves alone -/

/-- What no command ever writes: every byte of FB, FLEN, the inputs still to come and the port's data outputs (R22, R23,
R41). -/
structure KeepsSurroundings (s t : State) : Prop where
  bytes : ∀ a, t.fbByte a = s.fbByte a
  fb : t.fb = s.fb
  fbWritten : t.fbWritten = s.fbWritten
  resets : t.resets = s.resets
  flen : t.flen = s.flen
  rstLine : t.rstLine = s.rstLine
  hostQueue : t.hostQueue = s.hostQueue
  ack : t.ack = s.ack
  rdata : t.rdata = s.rdata

/-- The result register file is as before (R43). -/
structure KeepsFrame (s t : State) : Prop where
  frame : t.frame = s.frame
  fseq : t.fseq = s.fseq

/-- CFG is as before (R24). -/
structure KeepsLifetime (s t : State) : Prop where
  attached : t.attached = s.attached
  variant : t.variant = s.variant

/-! ### What a completion reports (R171) -/

/-- A success: ERRCODE is 0, ERR_ANY is unchanged, BUSY falls, `cmd_done` is pulsed. -/
structure Succeeded (s t : State) : Prop where
  errCode : t.errCode = .ok
  errAny : t.errAny = s.errAny
  pending : t.pending = none
  wait : t.wait = 0
  cmdDone : t.cmdDone = true

/-- A failure with code `c`: only STATUS is written, `cmd_done` is pulsed and `frame_commit` is not. -/
structure Failed (c : ResultCode) (s t : State) : Prop where
  errCode : t.errCode = c
  errAny : t.errAny = true
  pending : t.pending = none
  wait : t.wait = 0
  cmdDone : t.cmdDone = true
  frameCommit : t.frameCommit = false
  xr : t.xr = s.xr
  frame : KeepsFrame s t
  lifetime : KeepsLifetime s t
  surroundings : KeepsSurroundings s t

/-- `s` and `t` agree in every register of the RFU, whatever their ports have done (used to compare a run of cycles with
one completion). -/
structure SameRegisters (s t : State) : Prop where
  fb : t.fb = s.fb
  fbWritten : t.fbWritten = s.fbWritten
  resets : t.resets = s.resets
  flen : t.flen = s.flen
  attached : t.attached = s.attached
  variant : t.variant = s.variant
  errAny : t.errAny = s.errAny
  errCode : t.errCode = s.errCode
  xr : t.xr = s.xr
  fseq : t.fseq = s.fseq
  frame : t.frame = s.frame
  pending : t.pending = s.pending
  wait : t.wait = s.wait

/-! ### Legal frames and the invariant -/

/-- Every motion register is 0 (R139). -/
structure DecodedFrame.MotionZero (f : DecodedFrame) : Prop where
  accX : f.accX = 0
  accY : f.accY = 0
  accZ : f.accZ = 0
  gyrX : f.gyrX = 0
  gyrY : f.gyrY = 0
  gyrZ : f.gyrZ = 0
  magX : f.magX = 0
  magY : f.magY = 0
  magZ : f.magZ = 0

/-- A stick axis in its clamp range (R31). -/
def StickInRange (v : BitVec 16) : Prop := 900 ≤ v.toInt ∧ v.toInt ≤ 3200

/-- A sign-extended 24-bit value (R39). -/
def GyroInRange (v : Word) : Prop := -8388608 ≤ v.toInt ∧ v.toInt ≤ 8388607

/-- What holds of every frame a DECODE has committed (R30 to R39). -/
structure DecodedFrame.Legal (f : DecodedFrame) : Prop where
  btn : ∀ j : Fin 17, f.btn.getLsbD j.val = f.btnMask.getLsbD (Config.buttonBit j).val
  stickLX : StickInRange f.stickLX
  stickLY : StickInRange f.stickLY
  stickRX : StickInRange f.stickRX
  stickRY : StickInRange f.stickRY
  tsumX : f.tsumX.toNat ≤ 40950
  tsumY : f.tsumY.toNat ≤ 40950
  touchX : f.touchX.toNat = f.tsumX.toNat / 10
  touchY : f.touchY.toNat = 4096 - f.tsumY.toNat / 10
  tact : f.tact = true ↔ f.pres ≠ 0
  gyrX : GyroInRange f.gyrX
  gyrY : GyroInRange f.gyrY
  gyrZ : GyroInRange f.gyrZ

/-- The invariant every step keeps. -/
structure Inv (s : State) : Prop where
  /-- FB's storage is in its canonical form (log 5). -/
  fbCanonical : Memory.wf s.fb = true
  /-- Only written bytes have an entry, and so no address past 127 has one (log 5). -/
  fbListed : ∀ c ∈ s.fb, s.fbWritten.getLsbD c.1 = true
  /-- With no lifetime open VARIANT is 0 (R24, R162). -/
  variantClosed : s.attached = false → s.variant = .basic
  /-- The result registers hold the cleared values or a legal frame (R43). -/
  frameLegal : s.frame = .cleared ∨ s.frame.Legal
  /-- A nonzero FSEQ means that a frame was committed (R28, R161). -/
  fseqCounts : s.fseq ≠ 0 → s.frame.Legal
  /-- In a BASIC lifetime the motion registers are 0 (R139, R161). -/
  basicMotion : s.attached = true → s.variant = .basic → s.frame.MotionZero
  /-- TACT agrees with PRES, cleared or decoded (R37). -/
  tact : s.frame.tact = true ↔ s.frame.pres ≠ 0
  /-- Nothing waits when nothing is pending (log 13). -/
  waitIdle : s.pending = none → s.wait = 0
  /-- After a completion the RFU is idle (R41). -/
  doneIdle : s.cmdDone = true → s.pending = none
  /-- `frame_commit` comes with a successful completion in an open lifetime (R174). -/
  commitDone : s.frameCommit = true → s.cmdDone = true ∧ s.errCode = .ok ∧ s.attached = true ∧ s.frame.Legal
  /-- A completion with a nonzero code leaves ERR_ANY set (R25). -/
  errorShown : s.cmdDone = true → s.errCode ≠ .ok → s.errAny = true
  /-- Read data are valid only with an acknowledge (R63). -/
  dataAcked : s.rdata ≠ none → s.ack = true

/-- `rst` stays low in all the cycles to come. -/
def NoReset (s : State) : Prop := ∀ b ∈ s.rstLine, b = false

/-! ### The bits of FB a DECODE reads (R140) -/

/-- The bits of FB[a] that a DECODE of the given variant reads, row by row of R140's table. -/
def usedBits (v : Variant) (a : Nat) : Byte :=
  if a < 2 then 0x00
  else if a < 5 then 0xFF
  else if a = 5 then 0x00
  else if a < 15 then 0xFF
  else if a < 36 then (if v = .extended then 0xFF else 0x00)
  else if a < 76 then
    (if a % 2 = 0 then 0xFF else if a = 37 ∨ a = 39 ∨ a = 41 ∨ a = 43 then 0x7F else 0x0F)
  else if a = 80 then 0xFF
  else 0x00

/-- The live bits of a command word by its OP: the "used by" column of R80's table. -/
def liveBit (op k : Nat) : Prop :=
  k < 4 ∨ (8 ≤ k ∧ k ≤ 14 ∧ 1 ≤ op ∧ op ≤ 3) ∨ (16 ≤ k ∧ k ≤ 21 ∧ 1 ≤ op ∧ op ≤ 2) ∨ (24 ≤ k ∧ k ≤ 25 ∧ op = 5)

end Sys2Proof.Machine
end

