-- ==== Sys2Proof/WellFormed.lean ====
section
/-! DEFINITION. When a command has an encoding: the operand bounds an assembler enforces (30_encoding.md R81, R86). -/

namespace Sys2Proof

/-- R86: "An assembler refuses `off` outside 0..127, `w` outside 0..63 and `n` outside 0..3, because those values do not
fit their fields." A width of 0 or 33 to 63 fits, and is rejected when the command runs. -/
def Instr.wellFormed : Instr → Bool
  | .nop => true
  | .extu off w => decide (off < 128) && decide (w < 64)
  | .exts off w => decide (off < 128) && decide (w < 64)
  | .extp24 off => decide (off < 128)
  | .decode => true
  | .attach v => decide (v < 4)
  | .detach => true

/-- `Instr.wellFormed` as a proposition. -/
abbrev Instr.WellFormed (i : Instr) : Prop := i.wellFormed = true

end Sys2Proof
end

