-- ==== Sys2Proof/Certificates/Slice0/Obligations.lean ====
section
/-! DEFINITION. The statements for the provers. Each says one thing the numbered rules of spec/ say of the RFU; where one
rests on a choice of the model, its docstring names the log entry. -/

open Sys2Proof Sys2Proof.Machine

/-! ### Encoding (30_encoding.md) -/

/-- R81, R83, R86: every well-formed command, with every operand at every value, is read back from its own word. -/
def Obligations.DecodeUndoesEncode : Prop :=
  ∀ i : Instr, i.WellFormed → decodeWord (encode i) = .ok i

/-- R83, R85: each legal word has one meaning, a well-formed command, and is exactly that command's word: no bit of it
is dropped. -/
def Obligations.EncodeUndoesDecode : Prop :=
  ∀ (w : Word) (i : Instr), decodeWord w = .ok i → i.WellFormed ∧ encode i = w

/-- R83: a word is selected by at most one row of the match/mask table. -/
def Obligations.AtMostOnePatternSelects : Prop :=
  ∀ (w : Word) (r r' : OpRow), r ∈ opRows → r' ∈ opRows → r.selects w = true → r'.selects w = true → r = r'

/-- R84 (a), with the live fields of R80 and R82: a whole-word CMD write is illegal exactly when OP is 7 to 15 or a 1
stands in a bit outside OP and the live fields of OP. -/
def Obligations.IllegalWordsAreReservedOrNonLive : Prop :=
  ∀ w : Word, (∃ e, decodeIssued 0b1111 w = .error e) ↔
    (7 ≤ w.toNat % 16 ∨ ∃ k, k < 32 ∧ w.getLsbD k = true ∧ ¬ liveBit (w.toNat % 16) k)

/-- The words of 95_test_vectors.md sections 2 and 3, and what they stand for. -/
def Obligations.SpecWordsDecodeAsWritten : Prop :=
  decodeWord 0x00000000 = .ok .nop ∧ decodeWord 0x00100601 = .ok (.extu 6 16) ∧
  decodeWord 0x00187D02 = .ok (.exts 125 24) ∧ decodeWord 0x00001503 = .ok (.extp24 21) ∧
  decodeWord 0x00000004 = .ok .decode ∧ decodeWord 0x01000005 = .ok (.attach 1) ∧
  decodeWord 0x00000006 = .ok .detach ∧ decodeWord 0x00181503 = .error .nonLiveBit ∧
  decodeWord 0x00100608 = .error .reservedOpcode ∧ decodeIssued 0b0111 0x00100601 = .error .partialWrite

/-! ### A step (logs 1 and 12) -/

/-- R41, R84, with the model's cycle (logs 1, 12): in a cycle without reset in which the pending command's `LAT` has
passed, a step is the command's meaning on the state the port's cycle leaves; and a word placed by `withFetchWord` is
run by the very next step. -/
def Obligations.StepRunsDecodedCommand : Prop :=
  (∀ (s : State) (c : Command) (i : Instr), s.rstAsserted = false → s.pending = some c → s.wait = 0 →
    decodeIssued c.be c.word = .ok i → step s = exec i (portCycle s.beginCycle)) ∧
  (∀ (s : State) (n w : Nat) (i : Instr), decodeTableWord n w = some i →
    step (s.withFetchWord n w) = exec i (portCycle (s.withFetchWord n w).beginCycle))

/-- R68, R84, R171: a pending CMD write whose word selects no opcode, or that left a lane out, completes with
ILLEGAL_OP: ERRCODE 4 and ERR_ANY are written and no other register changes (in the model's cycle, log 1). -/
def Obligations.IllegalCommandOnlyReportsIllegalOp : Prop :=
  ∀ (s : State) (c : Command), s.rstAsserted = false → s.pending = some c → s.wait = 0 →
    (c.be ≠ 0b1111 ∨ ∀ i, decodeWord c.word ≠ .ok i) →
    ∃ t, step s = .next t ∧ t.errCode = .illegalOp ∧ t.errAny = true ∧ t.busy = false ∧ t.cmdDone = true ∧
      t.frameCommit = false ∧ t.xr = s.xr ∧ t.flen = s.flen ∧ t.fb = s.fb ∧ (∀ a, t.fbByte a = s.fbByte a) ∧
      KeepsFrame s t ∧ KeepsLifetime s t

/-- R41, R198, with the model's cycle (log 1): an accepted command with n cycles of `LAT` left completes at the end of the
(n+1)-th cycle, if reset stays low, whatever the host requests meanwhile. -/
def Obligations.AcceptedCommandCompletes : Prop :=
  ∀ (s : State) (c : Command), NoReset s → s.pending = some c →
    ∃ t, Host.Core.run Sys2Proof.core (s.wait + 1) s = .next t ∧ t.cmdDone = true ∧ t.busy = false

/-- R41, R74, R193, with the model's cycle (log 1): in a cycle that does not yet complete the pending command, nothing a
host can read changes, `cmd_done` stays low, and one cycle of `LAT` passes. -/
def Obligations.NothingChangesBeforeCompletion : Prop :=
  ∀ (s : State) (c : Command), s.rstAsserted = false → s.pending = some c → s.wait ≠ 0 →
    ∃ t, step s = .next t ∧ (∀ a, hostRead t a = hostRead s a) ∧ t.pending = some c ∧ t.wait + 1 = s.wait ∧
      t.cmdDone = false ∧ t.frameCommit = false

/-- R41, R73, R74, R77, with the model's cycle (log 1): the cycles from an acceptance to the completion, however many
`LAT` makes them and whatever the host reads or tries to write meanwhile, leave every register as the command's
meaning applied at once to the state of the acceptance. -/
def Obligations.CyclesRefineAtomicCommand : Prop :=
  ∀ (s : State) (c : Command) (i : Instr), NoReset s → s.pending = some c → decodeIssued c.be c.word = .ok i →
    ∃ t u, Host.Core.run Sys2Proof.core (s.wait + 1) s = .next t ∧ exec i s = .next u ∧ SameRegisters u t ∧
      t.cmdDone = true ∧ t.frameCommit = u.frameCommit

/-- R68, R75, R198, with the model's cycle (logs 1, 2, 6): a whole-word CMD write of a legal word, requested while the RFU
is idle, takes effect as that command, `LAT` cycles after its own. -/
def Obligations.CommandWriteRunsToItsEffect : Prop :=
  ∀ (s : State) (d : Word) (q : List HostRequest) (i : Instr), NoReset s → s.pending = none →
    s.hostQueue = .write 32 0b1111 d :: q → decodeWord d = .ok i →
    ∃ t u, Host.Core.run Sys2Proof.core (Config.latency (opField d) + 1) s = .next t ∧ exec i s = .next u ∧
      SameRegisters u t ∧ t.cmdDone = true

/-! ### Field extraction (40_field_extract.md) -/

/-- R100, R101: EXTU of a legal width inside FB puts the low w bits of the little-endian bytes into XR, zero-extended,
and completes with OK, everything else unchanged. -/
def Obligations.ExtuReadsUnsignedField : Prop :=
  ∀ (s : State) (off w : Nat), 1 ≤ w → w ≤ 32 → off + (w + 7) / 8 ≤ 128 →
    ∃ t, exec (.extu off w) s = .next t ∧
      t.xr.toNat = (∑ i ∈ Finset.range ((w + 7) / 8), (s.fbByte (off + i)).toNat * 2 ^ (8 * i)) % 2 ^ w ∧
      Succeeded s t ∧ t.frameCommit = false ∧ KeepsFrame s t ∧ KeepsLifetime s t ∧ KeepsSurroundings s t

/-- R100, R102: EXTS is EXTU with bit w-1 of the field as the sign. -/
def Obligations.ExtsReadsSignedField : Prop :=
  ∀ (s : State) (off w : Nat), 1 ≤ w → w ≤ 32 → off + (w + 7) / 8 ≤ 128 →
    ∃ t, exec (.exts off w) s = .next t ∧
      (∀ v : Nat, v = (∑ i ∈ Finset.range ((w + 7) / 8), (s.fbByte (off + i)).toNat * 2 ^ (8 * i)) →
        t.xr.toInt = if v.testBit (w - 1) then ((v % 2 ^ w : Nat) : Int) - 2 ^ w else ((v % 2 ^ w : Nat) : Int)) ∧
      Succeeded s t ∧ t.frameCommit = false ∧ KeepsFrame s t ∧ KeepsLifetime s t ∧ KeepsSurroundings s t

/-- R62, R103: EXTP24 inside FB puts the signed value of its three bytes into XR, the byte at the highest offset most
significant, and completes with OK, everything else unchanged. -/
def Obligations.Extp24ReadsPackedSignedField : Prop :=
  ∀ (s : State) (off : Nat), off + 3 ≤ 128 →
    ∃ t, exec (.extp24 off) s = .next t ∧
      t.xr.toInt = ((s.fbByte off).toNat : Int) + 256 * (s.fbByte (off + 1)).toNat +
        65536 * (s.fbByte (off + 2)).toNat - (if 128 ≤ (s.fbByte (off + 2)).toNat then 16777216 else 0) ∧
      Succeeded s t ∧ t.frameCommit = false ∧ KeepsFrame s t ∧ KeepsLifetime s t ∧ KeepsSurroundings s t

/-- R100, R172: EXTU and EXTS of an illegal width fail with WIDTH_ERR, wherever the offset, and only STATUS changes. -/
def Obligations.ExtractIllegalWidthFails : Prop :=
  ∀ (s : State) (off w : Nat), w = 0 ∨ 33 ≤ w →
    (∃ t, exec (.extu off w) s = .next t ∧ Failed .widthErr s t) ∧
    (∃ t, exec (.exts off w) s = .next t ∧ Failed .widthErr s t)

/-- R100, R101, R102, R103: a field that passes FB[127] fails with RANGE, and only STATUS changes. -/
def Obligations.ExtractPastBufferFails : Prop :=
  (∀ (s : State) (off w : Nat), 1 ≤ w → w ≤ 32 → 128 < off + (w + 7) / 8 →
    (∃ t, exec (.extu off w) s = .next t ∧ Failed .range s t) ∧
    (∃ t, exec (.exts off w) s = .next t ∧ Failed .range s t)) ∧
  (∀ (s : State) (off : Nat), 125 < off → ∃ t, exec (.extp24 off) s = .next t ∧ Failed .range s t)

/-- R104: wherever the three bytes lie in FB, `extp24 off` and `exts off, 24` are the same command, and both write
`sext_32({FB[off+2], FB[off+1], FB[off]})`. -/
def Obligations.Extp24EqualsExts24 : Prop :=
  ∀ (s : State) (off : Nat), off + 3 ≤ 128 →
    exec (.extp24 off) s = exec (.exts off 24) s ∧
    ∃ t, exec (.extp24 off) s = .next t ∧
      t.xr = (s.fbByte (off + 2) ++ s.fbByte (off + 1) ++ s.fbByte off : BitVec 24).signExtend 32

/-- R105: what EXTU, EXTS and EXTP24 answer depends on the command and the bytes of FB alone: two states with the same
bytes, whatever their lifetime, FLEN or results, end with the same code, and with the same XR where it is OK. -/
def Obligations.ExtractionReadsOnlyTheBuffer : Prop :=
  ∀ (s s' t t' : State) (off w : Nat) (i : Instr),
    i = .extu off w ∨ i = .exts off w ∨ i = .extp24 off →
    (∀ a, a < 128 → s.fbByte a = s'.fbByte a) → exec i s = .next t → exec i s' = .next t' →
    t.errCode = t'.errCode ∧ (t.errCode = .ok → t.xr = t'.xr)

/-! ### Frame decode (41_frame_decode.md) -/

/-- R121, R122: with no lifetime open DECODE fails with NOT_ATTACHED, whatever FLEN holds; with one open and FLEN other
than 128 it fails with INVALID_FRAME_LENGTH. Either writes STATUS alone: no result register, TSUMX, TSUMY, FSEQ, XR or
CFG. -/
def Obligations.DecodeChecksAttachmentThenLength : Prop :=
  (∀ s : State, s.attached = false → ∃ t, exec .decode s = .next t ∧ Failed .notAttached s t) ∧
  (∀ s : State, s.attached = true → s.flen ≠ 128 → ∃ t, exec .decode s = .next t ∧ Failed .invalidFrameLength s t)

/-- R123: BTNMASK has FB[4] in bits 31:24, FB[80] in 23:16, FB[2] in 15:8 and FB[3] in 7:0. -/
def Obligations.DecodeAssemblesButtonMask : Prop :=
  ∀ s : State, s.attached = true → s.flen = 128 →
    ∃ t, exec .decode s = .next t ∧
      t.frame.btnMask.toNat = (s.fbByte 4).toNat * 2 ^ 24 + (s.fbByte 80).toNat * 2 ^ 16 +
        (s.fbByte 2).toNat * 2 ^ 8 + (s.fbByte 3).toNat

/-- R124, R125: BTN bit j is BTNMASK's bit at `BUTTON_BIT[j]`, for 17 distinct positions, so a mask with only button j's
bit set shows button j pressed and the 16 others not. The positions are free (log 3). -/
def Obligations.DecodeTestsEachButton : Prop :=
  (∀ j k : Fin 17, Config.buttonBit j = Config.buttonBit k → j = k) ∧
  (∀ s : State, s.attached = true → s.flen = 128 →
    ∃ t, exec .decode s = .next t ∧
      (∀ j : Fin 17, t.frame.btn.getLsbD j.val = t.frame.btnMask.getLsbD (Config.buttonBit j).val) ∧
      (∀ j : Fin 17, t.frame.btnMask = 1#32 <<< (Config.buttonBit j).val → t.frame.btn = 1#17 <<< j.val))

/-- R126, R127: each stick axis is the signed little-endian pair at 6 + 2i, clamped to [900, 3200] by a signed
comparison, in the order left-X, left-Y, right-X, right-Y. -/
def Obligations.DecodeClampsEachStick : Prop :=
  ∀ s : State, s.attached = true → s.flen = 128 →
    ∃ t, exec .decode s = .next t ∧
      ∀ (i : Nat) (r : BitVec 16) (raw : Int),
        (i = 0 ∧ r = t.frame.stickLX ∨ i = 1 ∧ r = t.frame.stickLY ∨ i = 2 ∧ r = t.frame.stickRX ∨
          i = 3 ∧ r = t.frame.stickRY) →
        raw = (s.fbByte (6 + 2 * i) : BitVec 8).toNat + 256 * (s.fbByte (7 + 2 * i)).toInt →
        r.toInt = if raw < 900 then 900 else if raw > 3200 then 3200 else raw

/-- R128: VOL is FB[14], and a host read gives that byte zero-extended, whatever its value. -/
def Obligations.DecodeCopiesVolume : Prop :=
  ∀ s : State, s.attached = true → s.flen = 128 →
    ∃ t, exec .decode s = .next t ∧ t.frame.vol = s.fbByte 14 ∧ (hostRead t 46).toNat = (s.fbByte 14).toNat

/-- R129, R130: TSUMX and TSUMY are the exact sums of the ten 12-bit subsamples at 36 + 4i and 38 + 4i, at most 40950. -/
def Obligations.DecodeSumsTouchSubsamples : Prop :=
  ∀ s : State, s.attached = true → s.flen = 128 →
    ∃ t, exec .decode s = .next t ∧
      t.frame.tsumX.toNat = ∑ i ∈ Finset.range 10,
        ((s.fbByte (36 + 4 * i)).toNat + 256 * ((s.fbByte (37 + 4 * i)).toNat % 16)) ∧
      t.frame.tsumY.toNat = ∑ i ∈ Finset.range 10,
        ((s.fbByte (38 + 4 * i)).toNat + 256 * ((s.fbByte (39 + 4 * i)).toNat % 16)) ∧
      t.frame.tsumX.toNat ≤ 40950 ∧ t.frame.tsumY.toNat ≤ 40950

/-- R129: subsample i's x is what `extu 36+4i, 12` reads and its y what `extu 38+4i, 12` reads, so TSUMX and TSUMY are
the sums of ten extractions. -/
def Obligations.TouchSubsamplesAreTwelveBitExtractions : Prop :=
  ∀ s : State, s.attached = true → s.flen = 128 →
    ∃ (t : State) (x y : Nat → State), exec .decode s = .next t ∧
      (∀ i, i < 10 → exec (.extu (36 + 4 * i) 12) s = .next (x i) ∧ exec (.extu (38 + 4 * i) 12) s = .next (y i)) ∧
      t.frame.tsumX.toNat = ∑ i ∈ Finset.range 10, (x i).xr.toNat ∧
      t.frame.tsumY.toNat = ∑ i ∈ Finset.range 10, (y i).xr.toNat

/-- R131, R132, R133: TOUCH_X is TSUMX div 10, in [0, 4095]; TOUCH_Y is 4096 minus TSUMY div 10, truncated before the
flip, in [1, 4096]; neither waits for TACT nor is clamped to a capability range. -/
def Obligations.DecodeAveragesAndFlipsTouch : Prop :=
  ∀ s : State, s.attached = true → s.flen = 128 →
    ∃ t, exec .decode s = .next t ∧
      t.frame.touchX.toNat = t.frame.tsumX.toNat / 10 ∧ t.frame.touchX.toNat ≤ 4095 ∧
      (t.frame.touchY.toNat : Int) = 4096 - (t.frame.tsumY.toNat / 10 : Nat) ∧
      1 ≤ t.frame.touchY.toNat ∧ t.frame.touchY.toNat ≤ 4096

/-- R134, R135: PRES is the four 3-bit groups of bits 6:4 of FB[37], FB[39], FB[41], FB[43], group k at bits 3k+2 : 3k,
and TACT is PRES being nonzero, in the same commit. -/
def Obligations.DecodeAssemblesPressure : Prop :=
  ∀ s : State, s.attached = true → s.flen = 128 →
    ∃ t, exec .decode s = .next t ∧
      t.frame.pres.toNat = ∑ k ∈ Finset.range 4, ((s.fbByte (37 + 2 * k)).toNat / 16 % 8) * 2 ^ (3 * k) ∧
      (t.frame.tact = true ↔ t.frame.pres ≠ 0)

/-- R136, R137, R138: in an EXTENDED lifetime the accelerometer and the magnetometer are the signed little-endian pairs at
15 + 2a and 30 + 2a, and the gyroscope axis a is what `extp24 21+3a` reads. -/
def Obligations.DecodeReadsMotionWhenExtended : Prop :=
  ∀ s : State, s.attached = true → s.flen = 128 → s.variant = .extended →
    ∃ t, exec .decode s = .next t ∧
      t.frame.accX = s.fbByte 16 ++ s.fbByte 15 ∧ t.frame.accY = s.fbByte 18 ++ s.fbByte 17 ∧
      t.frame.accZ = s.fbByte 20 ++ s.fbByte 19 ∧
      (∃ u, exec (.extp24 21) s = .next u ∧ t.frame.gyrX = u.xr) ∧
      (∃ u, exec (.extp24 24) s = .next u ∧ t.frame.gyrY = u.xr) ∧
      (∃ u, exec (.extp24 27) s = .next u ∧ t.frame.gyrZ = u.xr) ∧
      t.frame.magX = s.fbByte 31 ++ s.fbByte 30 ∧ t.frame.magY = s.fbByte 33 ++ s.fbByte 32 ∧
      t.frame.magZ = s.fbByte 35 ++ s.fbByte 34 ∧
      hostRead t 51 = (s.fbByte 16 ++ s.fbByte 15 : BitVec 16).signExtend 32 ∧
      hostRead t 52 = (s.fbByte 18 ++ s.fbByte 17 : BitVec 16).signExtend 32 ∧
      hostRead t 53 = (s.fbByte 20 ++ s.fbByte 19 : BitVec 16).signExtend 32 ∧
      hostRead t 57 = (s.fbByte 31 ++ s.fbByte 30 : BitVec 16).signExtend 32 ∧
      hostRead t 58 = (s.fbByte 33 ++ s.fbByte 32 : BitVec 16).signExtend 32 ∧
      hostRead t 59 = (s.fbByte 35 ++ s.fbByte 34 : BitVec 16).signExtend 32

/-- R139: in a BASIC lifetime a successful DECODE writes 0 to all nine motion registers, whatever they held and whatever
FB[15] to FB[35] hold. -/
def Obligations.DecodeZeroesMotionWhenBasic : Prop :=
  ∀ s : State, s.attached = true → s.flen = 128 → s.variant = .basic →
    ∃ t, exec .decode s = .next t ∧ t.frame.MotionZero

/-- R141: a successful DECODE counts FSEQ up modulo 65536, writes ERRCODE 0, clears BUSY, pulses `frame_commit` and
`cmd_done`, and leaves ERR_ANY, XR, FLEN, CFG and FB unchanged. -/
def Obligations.DecodeCommitsOnce : Prop :=
  ∀ s : State, s.attached = true → s.flen = 128 →
    ∃ t, exec .decode s = .next t ∧ t.fseq.toNat = (s.fseq.toNat + 1) % 65536 ∧ t.frameCommit = true ∧
      Succeeded s t ∧ t.xr = s.xr ∧ KeepsLifetime s t ∧ KeepsSurroundings s t

/-- R142, R140: the frame a successful DECODE commits depends on FB's used bits and VARIANT alone (and on `BUTTON_BIT`,
fixed): two states that agree on the bits R140 calls read, and in VARIANT, commit the same frame, whatever else
differs between them. -/
def Obligations.DecodeIgnoresUnreadBits : Prop :=
  ∀ s s' t t' : State, s.attached = true → s.flen = 128 → s'.attached = true → s'.flen = 128 →
    s.variant = s'.variant →
    (∀ a, a < 128 → s.fbByte a &&& usedBits s.variant a = s'.fbByte a &&& usedBits s.variant a) →
    exec .decode s = .next t → exec .decode s' = .next t' → t.frame = t'.frame

/-- R142: two DECODEs one after the other commit the same frame; only FSEQ tells them apart. -/
def Obligations.DecodeTwiceCommitsTheSameFrame : Prop :=
  ∀ s : State, s.attached = true → s.flen = 128 →
    ∃ t u, exec .decode s = .next t ∧ exec .decode t = .next u ∧ u.frame = t.frame ∧ u.fseq = s.fseq + 2

/-! ### Control (42_control.md) -/

/-- R160, R171: NOP writes ERRCODE 0 and completes, and nothing else changes, ERR_ANY included. -/
def Obligations.NopOnlyReportsOk : Prop :=
  ∀ s : State, ∃ t, exec .nop s = .next t ∧ Succeeded s t ∧ t.frameCommit = false ∧ t.xr = s.xr ∧
    KeepsFrame s t ∧ KeepsLifetime s t ∧ KeepsSurroundings s t

/-- R161: from no lifetime, ATTACH 0 opens a BASIC one and ATTACH 1 an EXTENDED one; FSEQ, TSUMX, TSUMY and every result
register become 0; FB, FLEN and XR are unchanged. -/
def Obligations.AttachOpensLifetime : Prop :=
  ∀ (s : State) (v : Nat), s.attached = false → v ≤ 1 →
    ∃ t, exec (.attach v) s = .next t ∧ t.attached = true ∧ t.variant = (if v = 1 then .extended else .basic) ∧
      t.fseq = 0 ∧ t.frame = .cleared ∧ (∀ a : BitVec 6, 38 ≤ a.toNat → a.toNat ≤ 59 → hostRead t a = 0) ∧
      Succeeded s t ∧ t.frameCommit = false ∧ t.xr = s.xr ∧ KeepsSurroundings s t

/-- R161, R172: ATTACH in an open lifetime fails with ALREADY_ATTACHED, whatever its variant code, and with a reserved
code in no lifetime with BAD_VARIANT; either leaves CFG, FSEQ and the result registers as they were. -/
def Obligations.AttachRefusesReattachAndReservedVariant : Prop :=
  (∀ (s : State) (v : Nat), s.attached = true → ∃ t, exec (.attach v) s = .next t ∧ Failed .alreadyAttached s t) ∧
  (∀ (s : State) (v : Nat), s.attached = false → 2 ≤ v → ∃ t, exec (.attach v) s = .next t ∧ Failed .badVariant s t)

/-- R162: DETACH always succeeds, clears ATTACHED and VARIANT, and keeps the results, FSEQ, XR, FB and FLEN. -/
def Obligations.DetachClosesLifetime : Prop :=
  ∀ s : State, ∃ t, exec .detach s = .next t ∧ t.attached = false ∧ t.variant = .basic ∧ hostRead t 35 = 0 ∧
    Succeeded s t ∧ t.frameCommit = false ∧ t.xr = s.xr ∧ KeepsFrame s t ∧ KeepsSurroundings s t

/-- R162, R24: DETACH is idempotent, DECODE in the state it leaves fails with NOT_ATTACHED, and no command but an ATTACH
of code 0 or 1 that completes with OK makes ATTACHED 1 again. -/
def Obligations.DetachIsIdempotentAndStopsDecode : Prop :=
  (∀ s t : State, exec .detach s = .next t →
    exec .detach t = .next t ∧ ∃ u, exec .decode t = .next u ∧ Failed .notAttached t u) ∧
  (∀ (s t : State) (i : Instr), s.attached = false → exec i s = .next t → t.attached = true →
    t.errCode = .ok ∧ (i = .attach 0 ∨ i = .attach 1))

/-! ### Errors and the whole machine (60_exceptions.md, 10_state.md) -/

/-- R171: a command that completes with a nonzero code has written STATUS and nothing else, pulsing `cmd_done` and not
`frame_commit`; one that completes with code 0 leaves ERR_ANY unchanged. Every accepted command, legal or not, does one
of the two. -/
def Obligations.FailureWritesOnlyStatus : Prop :=
  ∀ (s : State) (c : Command), ∃ t, completeCommand c s = .next t ∧
    (t.errCode ≠ .ok → Failed t.errCode s t) ∧ (t.errCode = .ok → Succeeded s t)

/-- R22, R23, R41: no command, legal or not, writes a byte of FB or FLEN. -/
def Obligations.NoCommandWritesTheBuffer : Prop :=
  ∀ (s t : State) (c : Command), completeCommand c s = .next t → KeepsSurroundings s t

/-- R27: XR changes only at a successful EXTU, EXTS or EXTP24; every other command leaves it, ATTACH included. -/
def Obligations.OnlyExtractionsWriteXr : Prop :=
  ∀ (s t : State) (i : Instr), exec i s = .next t → t.xr ≠ s.xr →
    t.errCode = .ok ∧ ∃ off w, i = .extu off w ∨ i = .exts off w ∨ i = .extp24 off

/-- R163, with the model's cycle (log 1): while a lifetime stays open VARIANT does not change; it changes in a cycle only
by reset (to 0), by a completion that opens a lifetime, or by one that leaves none open (to 0). -/
def Obligations.VariantFixedForTheLifetime : Prop :=
  ∀ s t : State, step s = .next t →
    (s.attached = true → t.attached = true → t.variant = s.variant) ∧
    (t.variant ≠ s.variant →
      (s.rstAsserted = true ∧ t.variant = .basic) ∨
      (t.cmdDone = true ∧ t.errCode = .ok ∧ s.attached = false ∧ t.attached = true) ∨
      (t.cmdDone = true ∧ t.errCode = .ok ∧ t.attached = false ∧ t.variant = .basic))

/-- R25, R171, with the model's cycle (logs 1, 6): ERR_ANY is sticky: a cycle that finds it 1 leaves it 1, unless reset is
asserted or the cycle performs a STATUS write with lane 0 enabled and bit 1 set. -/
def Obligations.ErrAnyIsSticky : Prop :=
  ∀ s t : State, step s = .next t → s.errAny = true → s.rstAsserted = false →
    (∀ be d q, s.hostQueue = .write 33 be d :: q → (be.getLsbD 0 && d.getLsbD 1) = false) → t.errAny = true

/-- R43, R73, R174, with the model's cycle (log 1): a cycle changes the result registers or FSEQ only by reset, by a
commit, which pulses `frame_commit` and counts FSEQ up by 1, or by a successful completion that opens a lifetime where
none was open, which leaves all of them 0. -/
def Obligations.ResultsChangeOnlyAsAWhole : Prop :=
  ∀ s t : State, step s = .next t → s.rstAsserted = false →
    (t.frame = s.frame ∧ t.fseq = s.fseq) ∨
    (t.frameCommit = true ∧ t.fseq = s.fseq + 1 ∧ t.frame = decodeFrame Config.buttonBit s.fbByte s.variant) ∨
    (t.cmdDone = true ∧ t.errCode = .ok ∧ s.attached = false ∧ t.attached = true ∧ t.fseq = 0 ∧ t.frame = .cleared)

/-- R174, R141, with the model's cycle (log 1): `frame_commit` is high in a cycle only where `cmd_done` is, with ERRCODE
0, in an open lifetime with FLEN 128, and FSEQ then is one more. -/
def Obligations.FrameCommitMarksADecode : Prop :=
  ∀ s t : State, step s = .next t → t.frameCommit = true →
    t.cmdDone = true ∧ t.errCode = .ok ∧ s.attached = true ∧ s.flen = 128 ∧ t.fseq = s.fseq + 1

/-- R171, R175, R181: every state has a next one, and a cycle with no reset, no pending command and no request changes no
register and pulses nothing (in the model's cycle, log 1). -/
def Obligations.EveryStepGoesOnAndIdlenessKeepsState : Prop :=
  (∀ s : State, ∃ t, step s = .next t) ∧
  (∀ s : State, s.rstAsserted = false → s.pending = none → s.hostQueue = [] ∨ (∃ q, s.hostQueue = .idle :: q) →
    ∃ t, step s = .next t ∧ SameRegisters s t ∧ t.ack = false ∧ t.cmdDone = false ∧ t.frameCommit = false)

/-! ### The host port (20_memory.md) -/

/-- R64, R67: an FB window write sets the enabled lanes' bytes and leaves every other byte of FB, and an FB window read
gives the four bytes little-endian. The premise is the invariant's canonical storage (log 5). -/
def Obligations.FbWindowWritesEnabledLanes : Prop :=
  ∀ (s : State) (w : BitVec 6) (be : BitVec 4) (d : Word), Inv s → w.toNat < 32 →
    (∀ i, i < 4 → (hostWrite s w be d).fbByte (4 * w.toNat + i) =
      if be.getLsbD i then d.extractLsb' (8 * i) 8 else s.fbByte (4 * w.toNat + i)) ∧
    (∀ a, a < 4 * w.toNat ∨ 4 * w.toNat + 3 < a → (hostWrite s w be d).fbByte a = s.fbByte a) ∧
    (hostRead s w).toNat = ∑ i ∈ Finset.range 4, (s.fbByte (4 * w.toNat + i)).toNat * 2 ^ (8 * i)

/-- R67: an FB window write changes no register but FB. -/
def Obligations.FbWindowWriteTouchesOnlyFb : Prop :=
  ∀ (s : State) (w : BitVec 6) (be : BitVec 4) (d : Word), w.toNat < 32 →
    hostWrite s w be d = { s with fb := (hostWrite s w be d).fb, fbWritten := (hostWrite s w be d).fbWritten }

/-- R61, R67, R79, R104: a full-word write into the FB window and an extraction of the same four bytes agree: after
`W 4w, d` the command `extu 4w, 32` gives XR = d. -/
def Obligations.WrittenWordIsExtracted : Prop :=
  ∀ (s : State) (w : BitVec 6) (d : Word), Inv s → w.toNat < 32 →
    ∃ t, exec (.extu (4 * w.toNat) 32) (hostWrite s w 0b1111 d) = .next t ∧ t.xr = d

/-- R69: a STATUS write with lane 0 enabled and bit 1 set clears ERR_ANY; every other bit is ignored, and without the two
it changes nothing. -/
def Obligations.StatusWriteClearsErrAny : Prop :=
  ∀ (s : State) (be : BitVec 4) (d : Word),
    (be.getLsbD 0 = true ∧ d.getLsbD 1 = true → hostWrite s 33 be d = { s with errAny := false }) ∧
    (be.getLsbD 0 = false ∨ d.getLsbD 1 = false → hostWrite s 33 be d = s)

/-- R70: an FLEN write sets the enabled ones of FLEN[7:0] and FLEN[15:8], ignores lanes 2 and 3 and touches nothing else;
a read gives FLEN zero-extended. -/
def Obligations.FlenWriteSetsItsLanes : Prop :=
  ∀ (s : State) (be : BitVec 4) (d : Word),
    hostWrite s 34 be d = { s with flen := (hostWrite s 34 be d).flen } ∧
    (∀ k, k < 8 → (hostWrite s 34 be d).flen.getLsbD k = if be.getLsbD 0 then d.getLsbD k else s.flen.getLsbD k) ∧
    (∀ k, 8 ≤ k → k < 16 →
      (hostWrite s 34 be d).flen.getLsbD k = if be.getLsbD 1 then d.getLsbD k else s.flen.getLsbD k) ∧
    (hostRead s 34).toNat = s.flen.toNat

/-- R71: writes to CFG, XR, FSEQ, TSUMX, TSUMY, the result registers and the reserved addresses are ignored, and reads of
0xF0 to 0xFC and of CMD give 0. -/
def Obligations.ReadOnlyAddressesIgnoreWrites : Prop :=
  ∀ (s : State) (w : BitVec 6) (be : BitVec 4) (d : Word),
    (35 ≤ w.toNat → hostWrite s w be d = s) ∧ (60 ≤ w.toNat → hostRead s w = 0) ∧ (w = 32 → hostRead s w = 0)

/-- R24, R25: STATUS reads BUSY in bit 0, ERR_ANY in bit 1, the code in 7:4 and 0 elsewhere; CFG reads VARIANT in 1:0,
ATTACHED in 8 and 0 elsewhere. -/
def Obligations.StatusAndCfgReadTheirFields : Prop :=
  ∀ s : State,
    (hostRead s 33).toNat = (if s.pending = none then 0 else 1) + (if s.errAny = true then 2 else 0) +
      16 * (match s.errCode with
        | .ok => 0 | .invalidFrameLength => 1 | .range => 2 | .widthErr => 3
        | .illegalOp => 4 | .notAttached => 5 | .alreadyAttached => 6 | .badVariant => 7) ∧
    (hostRead s 35).toNat = (if s.variant = .extended then 1 else 0) + (if s.attached = true then 256 else 0)

/-- R27 to R40, R66: every other register reads at its own address, the unsigned ones zero-extended and the signed ones
sign-extended. -/
def Obligations.ResultRegistersReadExtended : Prop :=
  ∀ s : State,
    hostRead s 36 = s.xr ∧ (hostRead s 37).toNat = s.fseq.toNat ∧ (hostRead s 38).toNat = s.frame.tsumX.toNat ∧
    (hostRead s 39).toNat = s.frame.tsumY.toNat ∧ hostRead s 40 = s.frame.btnMask ∧
    (hostRead s 41).toNat = s.frame.btn.toNat ∧ (hostRead s 42).toInt = s.frame.stickLX.toInt ∧
    (hostRead s 43).toInt = s.frame.stickLY.toInt ∧ (hostRead s 44).toInt = s.frame.stickRX.toInt ∧
    (hostRead s 45).toInt = s.frame.stickRY.toInt ∧ (hostRead s 46).toNat = s.frame.vol.toNat ∧
    (hostRead s 47).toNat = s.frame.touchX.toNat ∧ (hostRead s 48).toNat = s.frame.touchY.toNat ∧
    (hostRead s 49).toNat = s.frame.pres.toNat ∧ (hostRead s 50).toNat = (if s.frame.tact = true then 1 else 0) ∧
    (hostRead s 51).toInt = s.frame.accX.toInt ∧ (hostRead s 52).toInt = s.frame.accY.toInt ∧
    (hostRead s 53).toInt = s.frame.accZ.toInt ∧ hostRead s 54 = s.frame.gyrX ∧ hostRead s 55 = s.frame.gyrY ∧
    hostRead s 56 = s.frame.gyrZ ∧ (hostRead s 57).toInt = s.frame.magX.toInt ∧
    (hostRead s 58).toInt = s.frame.magY.toInt ∧ (hostRead s 59).toInt = s.frame.magZ.toInt

/-- R72, R74, with the model's cycle (logs 1, 6): a read is performed in its own cycle, BUSY or not: it is acknowledged,
its data are the register's value before the cycle, and but for the port the cycle is as if nothing had been
requested. -/
def Obligations.ReadsAreNeverHeldAndHaveNoEffect : Prop :=
  ∀ (s t u : State) (a : BitVec 6) (q : List HostRequest), s.rstAsserted = false → s.hostQueue = .read a :: q →
    step s = .next t → step { s with hostQueue := .idle :: q } = .next u →
    t.ack = true ∧ t.rdata = some (hostRead s a) ∧ t = { u with ack := true, rdata := some (hostRead s a) }

/-- R74, R195, with the model's cycle (logs 1, 6): while BUSY = 1 a write of any address is held, unacknowledged and not
lost: it stands where it stood, and but for the port the cycle is as if nothing had been requested; while BUSY = 0 it
is acknowledged and performed: FB and FLEN are as `hostWrite` leaves them, and for every address but CMD's, whose
command may complete in the cycle, so is every other register. -/
def Obligations.WritesAreHeldWhileBusy : Prop :=
  ∀ (s t : State) (a : BitVec 6) (be : BitVec 4) (d : Word) (q : List HostRequest),
    s.rstAsserted = false → s.hostQueue = .write a be d :: q → step s = .next t →
    (s.busy = true → t.ack = false ∧ t.hostQueue = s.hostQueue ∧
      ∀ u, step { s with hostQueue := [] } = .next u → t = { u with hostQueue := s.hostQueue }) ∧
    (s.busy = false → t.ack = true ∧ t.rdata = none ∧ t.hostQueue = q ∧
      (∀ x, t.fbByte x = (hostWrite s a be d).fbByte x) ∧ t.flen = (hostWrite s a be d).flen ∧
      (a ≠ 32 → SameRegisters (hostWrite s a be d) t))

/-- R41, R68: a CMD write, whole or partial, makes PENDING its word with BUSY = 1 and changes no register a host can read
but STATUS.BUSY. -/
def Obligations.CmdWriteOnlyAccepts : Prop :=
  ∀ (s : State) (be : BitVec 4) (d : Word),
    (∃ n, hostWrite s 32 be d = { s with pending := some ⟨d, be⟩, wait := n }) ∧ (hostWrite s 32 be d).busy = true ∧
    ∀ a : BitVec 6, a ≠ 33 → hostRead (hostWrite s 32 be d) a = hostRead s a

/-! ### Reset and the invariant (70_reset_and_hazards.md) -/

/-- R190, R191: after reset STATUS, FLEN, CFG, XR, FSEQ, TSUMX, TSUMY and every result register read 0, no command is
pending and no output is asserted; FB is not among them. -/
def Obligations.ResetClearsEveryRegister : Prop :=
  (∀ a : BitVec 6, 32 ≤ a.toNat → hostRead State.reset a = 0) ∧ State.reset.pending = none ∧
    State.reset.busy = false ∧ State.reset.ack = false ∧ State.reset.cmdDone = false ∧
    State.reset.frameCommit = false ∧ State.reset.frame = .cleared

/-- R173, R190, with the model's cycle (logs 4, 7): a cycle with `rst` high abandons the pending command, performs and
acknowledges no transaction, pulses nothing, and leaves every register as State.reset has it and FB a fresh draw. -/
def Obligations.ResetCycleAbandonsEverything : Prop :=
  ∀ s : State, s.rstAsserted = true →
    ∃ t, step s = .next t ∧ t.pending = none ∧ t.ack = false ∧ t.rdata = none ∧ t.cmdDone = false ∧
      t.frameCommit = false ∧ (∀ a : BitVec 6, 32 ≤ a.toNat → hostRead t a = 0) ∧
      (∀ a, t.fbByte a = Config.fbDraw (s.resets + 1) a)

/-- The invariant of a safe state holds right after reset. -/
def Obligations.ResetMeetsInvariant : Prop := Inv State.reset

/-- R30 to R39, R43, R163, R174 and the model's storage form (log 5): from every state that meets the invariant, a step
leads to one that meets it: FB canonical, result registers cleared or a legal frame (sticks clamped, sums bounded,
centroid and TACT consistent), no motion in a BASIC lifetime, VARIANT 0 outside one. -/
def Obligations.StepKeepsInvariant : Prop :=
  ∀ s t : State, Inv s → step s = .next t → Inv t
end

