-- ==== Sys2Proof/Laws/Encoding.lean ====
section
/-! SUPPORT. The fields of an assembled command word (30_encoding.md R80): each field reads back what was laid out. -/

namespace Sys2Proof

/-- OP of an assembled word. -/
@[simp] theorem opField_layoutWord (v : BitVec 2) (w : BitVec 6) (off : BitVec 7) (op : BitVec 4) :
    opField (layoutWord v w off op) = op := by
  apply BitVec.eq_of_getLsbD_eq
  intro k hk
  simp only [opField, layoutWord, BitVec.getLsbD_extractLsb', BitVec.getLsbD_append]
  interval_cases k <;> simp

/-- OFFSET of an assembled word. -/
@[simp] theorem offField_layoutWord (v : BitVec 2) (w : BitVec 6) (off : BitVec 7) (op : BitVec 4) :
    offField (layoutWord v w off op) = off := by
  apply BitVec.eq_of_getLsbD_eq
  intro k hk
  simp only [offField, layoutWord, BitVec.getLsbD_extractLsb', BitVec.getLsbD_append]
  interval_cases k <;> simp

/-- WIDTH of an assembled word. -/
@[simp] theorem widthField_layoutWord (v : BitVec 2) (w : BitVec 6) (off : BitVec 7) (op : BitVec 4) :
    widthField (layoutWord v w off op) = w := by
  apply BitVec.eq_of_getLsbD_eq
  intro k hk
  simp only [widthField, layoutWord, BitVec.getLsbD_extractLsb', BitVec.getLsbD_append]
  interval_cases k <;> simp

/-- VAR of an assembled word. -/
@[simp] theorem varField_layoutWord (v : BitVec 2) (w : BitVec 6) (off : BitVec 7) (op : BitVec 4) :
    varField (layoutWord v w off op) = v := by
  apply BitVec.eq_of_getLsbD_eq
  intro k hk
  simp only [varField, layoutWord, BitVec.getLsbD_extractLsb', BitVec.getLsbD_append]
  interval_cases k <;> simp

/-- The pattern of EXTU, EXTS and the layout they share (R83). -/
theorem layoutWord_and_extract (w : BitVec 6) (off : BitVec 7) (op : BitVec 4) :
    layoutWord 0 w off op &&& 0xFFC080FF = layoutWord 0 0 0 op := by
  apply BitVec.eq_of_getLsbD_eq
  intro k hk
  simp only [layoutWord, BitVec.getLsbD_and, BitVec.getLsbD_append]
  interval_cases k <;> simp

/-- The pattern of EXTP24 (R83). -/
theorem layoutWord_and_packed (off : BitVec 7) (op : BitVec 4) :
    layoutWord 0 0 off op &&& 0xFFFF80FF = layoutWord 0 0 0 op := by
  apply BitVec.eq_of_getLsbD_eq
  intro k hk
  simp only [layoutWord, BitVec.getLsbD_and, BitVec.getLsbD_append]
  interval_cases k <;> simp

/-- The pattern of ATTACH (R83). -/
theorem layoutWord_and_attach (v : BitVec 2) (op : BitVec 4) :
    layoutWord v 0 0 op &&& 0xFCFFFFFF = layoutWord 0 0 0 op := by
  apply BitVec.eq_of_getLsbD_eq
  intro k hk
  simp only [layoutWord, BitVec.getLsbD_and, BitVec.getLsbD_append]
  interval_cases k <;> simp

/-- The low byte of a word under a mask that covers it, which holds OP (R83: "the match values differ in bits 3:0"). -/
theorem opField_and {w m : Word} (h : opField m = 0xF) : opField (w &&& m) = opField w := by
  apply BitVec.eq_of_getLsbD_eq
  intro k hk
  have hm : (opField m).getLsbD k = true := by rw [h]; interval_cases k <;> rfl
  simp only [opField, BitVec.getLsbD_extractLsb', BitVec.getLsbD_and] at hm ⊢
  simp_all

end Sys2Proof
end

