-- ==== Sys2Proof/Laws/State.lean ====
section
/-! SUPPORT. One lemma per field per update of State, each true by rfl, so that no later proof unfolds a record update. -/

namespace Sys2Proof.Machine

/-- A success is a completion with code 0 (R171). -/
@[simp] theorem State.complete_eq_finish (s : State) : s.complete = s.finish .ok := rfl

/-- An error is a completion on the state the command found (R171). -/
@[simp] theorem State.raise_eq_finish (s : State) (c : ResultCode) : s.raise c = s.finish c := rfl

/-- BUSY is PENDING holding a command (R41). -/
theorem State.busy_eq (s : State) : s.busy = s.pending.isSome := rfl

/-! ### setFbByte: setting one byte of FB -/

@[simp] theorem State.setFbByte_fb (s : State) (a : Nat) (v : Byte) : (s.setFbByte a v).fb = Memory.write s.fb a v := rfl
@[simp] theorem State.setFbByte_fbWritten (s : State) (a : Nat) (v : Byte) : (s.setFbByte a v).fbWritten = s.fbWritten ||| (1#128 <<< a) := rfl
@[simp] theorem State.setFbByte_resets (s : State) (a : Nat) (v : Byte) : (s.setFbByte a v).resets = s.resets := rfl
@[simp] theorem State.setFbByte_flen (s : State) (a : Nat) (v : Byte) : (s.setFbByte a v).flen = s.flen := rfl
@[simp] theorem State.setFbByte_attached (s : State) (a : Nat) (v : Byte) : (s.setFbByte a v).attached = s.attached := rfl
@[simp] theorem State.setFbByte_variant (s : State) (a : Nat) (v : Byte) : (s.setFbByte a v).variant = s.variant := rfl
@[simp] theorem State.setFbByte_errAny (s : State) (a : Nat) (v : Byte) : (s.setFbByte a v).errAny = s.errAny := rfl
@[simp] theorem State.setFbByte_errCode (s : State) (a : Nat) (v : Byte) : (s.setFbByte a v).errCode = s.errCode := rfl
@[simp] theorem State.setFbByte_xr (s : State) (a : Nat) (v : Byte) : (s.setFbByte a v).xr = s.xr := rfl
@[simp] theorem State.setFbByte_fseq (s : State) (a : Nat) (v : Byte) : (s.setFbByte a v).fseq = s.fseq := rfl
@[simp] theorem State.setFbByte_frame (s : State) (a : Nat) (v : Byte) : (s.setFbByte a v).frame = s.frame := rfl
@[simp] theorem State.setFbByte_pending (s : State) (a : Nat) (v : Byte) : (s.setFbByte a v).pending = s.pending := rfl
@[simp] theorem State.setFbByte_wait (s : State) (a : Nat) (v : Byte) : (s.setFbByte a v).wait = s.wait := rfl
@[simp] theorem State.setFbByte_rstLine (s : State) (a : Nat) (v : Byte) : (s.setFbByte a v).rstLine = s.rstLine := rfl
@[simp] theorem State.setFbByte_hostQueue (s : State) (a : Nat) (v : Byte) : (s.setFbByte a v).hostQueue = s.hostQueue := rfl
@[simp] theorem State.setFbByte_ack (s : State) (a : Nat) (v : Byte) : (s.setFbByte a v).ack = s.ack := rfl
@[simp] theorem State.setFbByte_rdata (s : State) (a : Nat) (v : Byte) : (s.setFbByte a v).rdata = s.rdata := rfl
@[simp] theorem State.setFbByte_cmdDone (s : State) (a : Nat) (v : Byte) : (s.setFbByte a v).cmdDone = s.cmdDone := rfl
@[simp] theorem State.setFbByte_frameCommit (s : State) (a : Nat) (v : Byte) : (s.setFbByte a v).frameCommit = s.frameCommit := rfl

/-! ### setXr: staging XR -/

@[simp] theorem State.setXr_fb (s : State) (v : Word) : (s.setXr v).fb = s.fb := rfl
@[simp] theorem State.setXr_fbWritten (s : State) (v : Word) : (s.setXr v).fbWritten = s.fbWritten := rfl
@[simp] theorem State.setXr_resets (s : State) (v : Word) : (s.setXr v).resets = s.resets := rfl
@[simp] theorem State.setXr_flen (s : State) (v : Word) : (s.setXr v).flen = s.flen := rfl
@[simp] theorem State.setXr_attached (s : State) (v : Word) : (s.setXr v).attached = s.attached := rfl
@[simp] theorem State.setXr_variant (s : State) (v : Word) : (s.setXr v).variant = s.variant := rfl
@[simp] theorem State.setXr_errAny (s : State) (v : Word) : (s.setXr v).errAny = s.errAny := rfl
@[simp] theorem State.setXr_errCode (s : State) (v : Word) : (s.setXr v).errCode = s.errCode := rfl
@[simp] theorem State.setXr_xr (s : State) (v : Word) : (s.setXr v).xr = v := rfl
@[simp] theorem State.setXr_fseq (s : State) (v : Word) : (s.setXr v).fseq = s.fseq := rfl
@[simp] theorem State.setXr_frame (s : State) (v : Word) : (s.setXr v).frame = s.frame := rfl
@[simp] theorem State.setXr_pending (s : State) (v : Word) : (s.setXr v).pending = s.pending := rfl
@[simp] theorem State.setXr_wait (s : State) (v : Word) : (s.setXr v).wait = s.wait := rfl
@[simp] theorem State.setXr_rstLine (s : State) (v : Word) : (s.setXr v).rstLine = s.rstLine := rfl
@[simp] theorem State.setXr_hostQueue (s : State) (v : Word) : (s.setXr v).hostQueue = s.hostQueue := rfl
@[simp] theorem State.setXr_ack (s : State) (v : Word) : (s.setXr v).ack = s.ack := rfl
@[simp] theorem State.setXr_rdata (s : State) (v : Word) : (s.setXr v).rdata = s.rdata := rfl
@[simp] theorem State.setXr_cmdDone (s : State) (v : Word) : (s.setXr v).cmdDone = s.cmdDone := rfl
@[simp] theorem State.setXr_frameCommit (s : State) (v : Word) : (s.setXr v).frameCommit = s.frameCommit := rfl
@[simp] theorem State.setXr_fbByte (s : State) (v : Word) (k : Nat) : (s.setXr v).fbByte k = s.fbByte k := rfl

/-! ### setLifetime: staging CFG -/

@[simp] theorem State.setLifetime_fb (s : State) (a : Bool) (v : Variant) : (s.setLifetime a v).fb = s.fb := rfl
@[simp] theorem State.setLifetime_fbWritten (s : State) (a : Bool) (v : Variant) : (s.setLifetime a v).fbWritten = s.fbWritten := rfl
@[simp] theorem State.setLifetime_resets (s : State) (a : Bool) (v : Variant) : (s.setLifetime a v).resets = s.resets := rfl
@[simp] theorem State.setLifetime_flen (s : State) (a : Bool) (v : Variant) : (s.setLifetime a v).flen = s.flen := rfl
@[simp] theorem State.setLifetime_attached (s : State) (a : Bool) (v : Variant) : (s.setLifetime a v).attached = a := rfl
@[simp] theorem State.setLifetime_variant (s : State) (a : Bool) (v : Variant) : (s.setLifetime a v).variant = v := rfl
@[simp] theorem State.setLifetime_errAny (s : State) (a : Bool) (v : Variant) : (s.setLifetime a v).errAny = s.errAny := rfl
@[simp] theorem State.setLifetime_errCode (s : State) (a : Bool) (v : Variant) : (s.setLifetime a v).errCode = s.errCode := rfl
@[simp] theorem State.setLifetime_xr (s : State) (a : Bool) (v : Variant) : (s.setLifetime a v).xr = s.xr := rfl
@[simp] theorem State.setLifetime_fseq (s : State) (a : Bool) (v : Variant) : (s.setLifetime a v).fseq = s.fseq := rfl
@[simp] theorem State.setLifetime_frame (s : State) (a : Bool) (v : Variant) : (s.setLifetime a v).frame = s.frame := rfl
@[simp] theorem State.setLifetime_pending (s : State) (a : Bool) (v : Variant) : (s.setLifetime a v).pending = s.pending := rfl
@[simp] theorem State.setLifetime_wait (s : State) (a : Bool) (v : Variant) : (s.setLifetime a v).wait = s.wait := rfl
@[simp] theorem State.setLifetime_rstLine (s : State) (a : Bool) (v : Variant) : (s.setLifetime a v).rstLine = s.rstLine := rfl
@[simp] theorem State.setLifetime_hostQueue (s : State) (a : Bool) (v : Variant) : (s.setLifetime a v).hostQueue = s.hostQueue := rfl
@[simp] theorem State.setLifetime_ack (s : State) (a : Bool) (v : Variant) : (s.setLifetime a v).ack = s.ack := rfl
@[simp] theorem State.setLifetime_rdata (s : State) (a : Bool) (v : Variant) : (s.setLifetime a v).rdata = s.rdata := rfl
@[simp] theorem State.setLifetime_cmdDone (s : State) (a : Bool) (v : Variant) : (s.setLifetime a v).cmdDone = s.cmdDone := rfl
@[simp] theorem State.setLifetime_frameCommit (s : State) (a : Bool) (v : Variant) : (s.setLifetime a v).frameCommit = s.frameCommit := rfl
@[simp] theorem State.setLifetime_fbByte (s : State) (a : Bool) (v : Variant) (k : Nat) : (s.setLifetime a v).fbByte k = s.fbByte k := rfl

/-! ### setFrame: staging the result register file -/

@[simp] theorem State.setFrame_fb (s : State) (f : DecodedFrame) (n : BitVec 16) : (s.setFrame f n).fb = s.fb := rfl
@[simp] theorem State.setFrame_fbWritten (s : State) (f : DecodedFrame) (n : BitVec 16) : (s.setFrame f n).fbWritten = s.fbWritten := rfl
@[simp] theorem State.setFrame_resets (s : State) (f : DecodedFrame) (n : BitVec 16) : (s.setFrame f n).resets = s.resets := rfl
@[simp] theorem State.setFrame_flen (s : State) (f : DecodedFrame) (n : BitVec 16) : (s.setFrame f n).flen = s.flen := rfl
@[simp] theorem State.setFrame_attached (s : State) (f : DecodedFrame) (n : BitVec 16) : (s.setFrame f n).attached = s.attached := rfl
@[simp] theorem State.setFrame_variant (s : State) (f : DecodedFrame) (n : BitVec 16) : (s.setFrame f n).variant = s.variant := rfl
@[simp] theorem State.setFrame_errAny (s : State) (f : DecodedFrame) (n : BitVec 16) : (s.setFrame f n).errAny = s.errAny := rfl
@[simp] theorem State.setFrame_errCode (s : State) (f : DecodedFrame) (n : BitVec 16) : (s.setFrame f n).errCode = s.errCode := rfl
@[simp] theorem State.setFrame_xr (s : State) (f : DecodedFrame) (n : BitVec 16) : (s.setFrame f n).xr = s.xr := rfl
@[simp] theorem State.setFrame_fseq (s : State) (f : DecodedFrame) (n : BitVec 16) : (s.setFrame f n).fseq = n := rfl
@[simp] theorem State.setFrame_frame (s : State) (f : DecodedFrame) (n : BitVec 16) : (s.setFrame f n).frame = f := rfl
@[simp] theorem State.setFrame_pending (s : State) (f : DecodedFrame) (n : BitVec 16) : (s.setFrame f n).pending = s.pending := rfl
@[simp] theorem State.setFrame_wait (s : State) (f : DecodedFrame) (n : BitVec 16) : (s.setFrame f n).wait = s.wait := rfl
@[simp] theorem State.setFrame_rstLine (s : State) (f : DecodedFrame) (n : BitVec 16) : (s.setFrame f n).rstLine = s.rstLine := rfl
@[simp] theorem State.setFrame_hostQueue (s : State) (f : DecodedFrame) (n : BitVec 16) : (s.setFrame f n).hostQueue = s.hostQueue := rfl
@[simp] theorem State.setFrame_ack (s : State) (f : DecodedFrame) (n : BitVec 16) : (s.setFrame f n).ack = s.ack := rfl
@[simp] theorem State.setFrame_rdata (s : State) (f : DecodedFrame) (n : BitVec 16) : (s.setFrame f n).rdata = s.rdata := rfl
@[simp] theorem State.setFrame_cmdDone (s : State) (f : DecodedFrame) (n : BitVec 16) : (s.setFrame f n).cmdDone = s.cmdDone := rfl
@[simp] theorem State.setFrame_frameCommit (s : State) (f : DecodedFrame) (n : BitVec 16) : (s.setFrame f n).frameCommit = s.frameCommit := rfl
@[simp] theorem State.setFrame_fbByte (s : State) (f : DecodedFrame) (n : BitVec 16) (k : Nat) : (s.setFrame f n).fbByte k = s.fbByte k := rfl

/-! ### finish: a completion -/

@[simp] theorem State.finish_fb (s : State) (c : ResultCode) : (s.finish c).fb = s.fb := rfl
@[simp] theorem State.finish_fbWritten (s : State) (c : ResultCode) : (s.finish c).fbWritten = s.fbWritten := rfl
@[simp] theorem State.finish_resets (s : State) (c : ResultCode) : (s.finish c).resets = s.resets := rfl
@[simp] theorem State.finish_flen (s : State) (c : ResultCode) : (s.finish c).flen = s.flen := rfl
@[simp] theorem State.finish_attached (s : State) (c : ResultCode) : (s.finish c).attached = s.attached := rfl
@[simp] theorem State.finish_variant (s : State) (c : ResultCode) : (s.finish c).variant = s.variant := rfl
@[simp] theorem State.finish_errAny (s : State) (c : ResultCode) : (s.finish c).errAny = (s.errAny || (c != .ok)) := rfl
@[simp] theorem State.finish_errCode (s : State) (c : ResultCode) : (s.finish c).errCode = c := rfl
@[simp] theorem State.finish_xr (s : State) (c : ResultCode) : (s.finish c).xr = s.xr := rfl
@[simp] theorem State.finish_fseq (s : State) (c : ResultCode) : (s.finish c).fseq = s.fseq := rfl
@[simp] theorem State.finish_frame (s : State) (c : ResultCode) : (s.finish c).frame = s.frame := rfl
@[simp] theorem State.finish_pending (s : State) (c : ResultCode) : (s.finish c).pending = none := rfl
@[simp] theorem State.finish_wait (s : State) (c : ResultCode) : (s.finish c).wait = 0 := rfl
@[simp] theorem State.finish_rstLine (s : State) (c : ResultCode) : (s.finish c).rstLine = s.rstLine := rfl
@[simp] theorem State.finish_hostQueue (s : State) (c : ResultCode) : (s.finish c).hostQueue = s.hostQueue := rfl
@[simp] theorem State.finish_ack (s : State) (c : ResultCode) : (s.finish c).ack = s.ack := rfl
@[simp] theorem State.finish_rdata (s : State) (c : ResultCode) : (s.finish c).rdata = s.rdata := rfl
@[simp] theorem State.finish_cmdDone (s : State) (c : ResultCode) : (s.finish c).cmdDone = true := rfl
@[simp] theorem State.finish_frameCommit (s : State) (c : ResultCode) : (s.finish c).frameCommit = false := rfl
@[simp] theorem State.finish_fbByte (s : State) (c : ResultCode) (k : Nat) : (s.finish c).fbByte k = s.fbByte k := rfl

/-! ### commitFrame: a committing completion -/

@[simp] theorem State.commitFrame_fb (s : State) : s.commitFrame.fb = s.fb := rfl
@[simp] theorem State.commitFrame_fbWritten (s : State) : s.commitFrame.fbWritten = s.fbWritten := rfl
@[simp] theorem State.commitFrame_resets (s : State) : s.commitFrame.resets = s.resets := rfl
@[simp] theorem State.commitFrame_flen (s : State) : s.commitFrame.flen = s.flen := rfl
@[simp] theorem State.commitFrame_attached (s : State) : s.commitFrame.attached = s.attached := rfl
@[simp] theorem State.commitFrame_variant (s : State) : s.commitFrame.variant = s.variant := rfl
@[simp] theorem State.commitFrame_errAny (s : State) : s.commitFrame.errAny = s.errAny := by simp [State.commitFrame, State.complete, State.finish]
@[simp] theorem State.commitFrame_errCode (s : State) : s.commitFrame.errCode = .ok := rfl
@[simp] theorem State.commitFrame_xr (s : State) : s.commitFrame.xr = s.xr := rfl
@[simp] theorem State.commitFrame_fseq (s : State) : s.commitFrame.fseq = s.fseq := rfl
@[simp] theorem State.commitFrame_frame (s : State) : s.commitFrame.frame = s.frame := rfl
@[simp] theorem State.commitFrame_pending (s : State) : s.commitFrame.pending = none := rfl
@[simp] theorem State.commitFrame_wait (s : State) : s.commitFrame.wait = 0 := rfl
@[simp] theorem State.commitFrame_rstLine (s : State) : s.commitFrame.rstLine = s.rstLine := rfl
@[simp] theorem State.commitFrame_hostQueue (s : State) : s.commitFrame.hostQueue = s.hostQueue := rfl
@[simp] theorem State.commitFrame_ack (s : State) : s.commitFrame.ack = s.ack := rfl
@[simp] theorem State.commitFrame_rdata (s : State) : s.commitFrame.rdata = s.rdata := rfl
@[simp] theorem State.commitFrame_cmdDone (s : State) : s.commitFrame.cmdDone = true := rfl
@[simp] theorem State.commitFrame_frameCommit (s : State) : s.commitFrame.frameCommit = true := rfl
@[simp] theorem State.commitFrame_fbByte (s : State) (k : Nat) : s.commitFrame.fbByte k = s.fbByte k := rfl

/-! ### clearErrAny: clearing ERR_ANY -/

@[simp] theorem State.clearErrAny_fb (s : State) : s.clearErrAny.fb = s.fb := rfl
@[simp] theorem State.clearErrAny_fbWritten (s : State) : s.clearErrAny.fbWritten = s.fbWritten := rfl
@[simp] theorem State.clearErrAny_resets (s : State) : s.clearErrAny.resets = s.resets := rfl
@[simp] theorem State.clearErrAny_flen (s : State) : s.clearErrAny.flen = s.flen := rfl
@[simp] theorem State.clearErrAny_attached (s : State) : s.clearErrAny.attached = s.attached := rfl
@[simp] theorem State.clearErrAny_variant (s : State) : s.clearErrAny.variant = s.variant := rfl
@[simp] theorem State.clearErrAny_errAny (s : State) : s.clearErrAny.errAny = false := rfl
@[simp] theorem State.clearErrAny_errCode (s : State) : s.clearErrAny.errCode = s.errCode := rfl
@[simp] theorem State.clearErrAny_xr (s : State) : s.clearErrAny.xr = s.xr := rfl
@[simp] theorem State.clearErrAny_fseq (s : State) : s.clearErrAny.fseq = s.fseq := rfl
@[simp] theorem State.clearErrAny_frame (s : State) : s.clearErrAny.frame = s.frame := rfl
@[simp] theorem State.clearErrAny_pending (s : State) : s.clearErrAny.pending = s.pending := rfl
@[simp] theorem State.clearErrAny_wait (s : State) : s.clearErrAny.wait = s.wait := rfl
@[simp] theorem State.clearErrAny_rstLine (s : State) : s.clearErrAny.rstLine = s.rstLine := rfl
@[simp] theorem State.clearErrAny_hostQueue (s : State) : s.clearErrAny.hostQueue = s.hostQueue := rfl
@[simp] theorem State.clearErrAny_ack (s : State) : s.clearErrAny.ack = s.ack := rfl
@[simp] theorem State.clearErrAny_rdata (s : State) : s.clearErrAny.rdata = s.rdata := rfl
@[simp] theorem State.clearErrAny_cmdDone (s : State) : s.clearErrAny.cmdDone = s.cmdDone := rfl
@[simp] theorem State.clearErrAny_frameCommit (s : State) : s.clearErrAny.frameCommit = s.frameCommit := rfl
@[simp] theorem State.clearErrAny_fbByte (s : State) (k : Nat) : s.clearErrAny.fbByte k = s.fbByte k := rfl

/-! ### accept: acceptance -/

@[simp] theorem State.accept_fb (s : State) (c : Command) (n : Nat) : (s.accept c n).fb = s.fb := rfl
@[simp] theorem State.accept_fbWritten (s : State) (c : Command) (n : Nat) : (s.accept c n).fbWritten = s.fbWritten := rfl
@[simp] theorem State.accept_resets (s : State) (c : Command) (n : Nat) : (s.accept c n).resets = s.resets := rfl
@[simp] theorem State.accept_flen (s : State) (c : Command) (n : Nat) : (s.accept c n).flen = s.flen := rfl
@[simp] theorem State.accept_attached (s : State) (c : Command) (n : Nat) : (s.accept c n).attached = s.attached := rfl
@[simp] theorem State.accept_variant (s : State) (c : Command) (n : Nat) : (s.accept c n).variant = s.variant := rfl
@[simp] theorem State.accept_errAny (s : State) (c : Command) (n : Nat) : (s.accept c n).errAny = s.errAny := rfl
@[simp] theorem State.accept_errCode (s : State) (c : Command) (n : Nat) : (s.accept c n).errCode = s.errCode := rfl
@[simp] theorem State.accept_xr (s : State) (c : Command) (n : Nat) : (s.accept c n).xr = s.xr := rfl
@[simp] theorem State.accept_fseq (s : State) (c : Command) (n : Nat) : (s.accept c n).fseq = s.fseq := rfl
@[simp] theorem State.accept_frame (s : State) (c : Command) (n : Nat) : (s.accept c n).frame = s.frame := rfl
@[simp] theorem State.accept_pending (s : State) (c : Command) (n : Nat) : (s.accept c n).pending = some c := rfl
@[simp] theorem State.accept_wait (s : State) (c : Command) (n : Nat) : (s.accept c n).wait = n := rfl
@[simp] theorem State.accept_rstLine (s : State) (c : Command) (n : Nat) : (s.accept c n).rstLine = s.rstLine := rfl
@[simp] theorem State.accept_hostQueue (s : State) (c : Command) (n : Nat) : (s.accept c n).hostQueue = s.hostQueue := rfl
@[simp] theorem State.accept_ack (s : State) (c : Command) (n : Nat) : (s.accept c n).ack = s.ack := rfl
@[simp] theorem State.accept_rdata (s : State) (c : Command) (n : Nat) : (s.accept c n).rdata = s.rdata := rfl
@[simp] theorem State.accept_cmdDone (s : State) (c : Command) (n : Nat) : (s.accept c n).cmdDone = s.cmdDone := rfl
@[simp] theorem State.accept_frameCommit (s : State) (c : Command) (n : Nat) : (s.accept c n).frameCommit = s.frameCommit := rfl
@[simp] theorem State.accept_fbByte (s : State) (c : Command) (n : Nat) (k : Nat) : (s.accept c n).fbByte k = s.fbByte k := rfl

/-! ### acknowledge: an acknowledged transaction -/

@[simp] theorem State.acknowledge_fb (s : State) (q : List HostRequest) (d : Option Word) : (s.acknowledge q d).fb = s.fb := rfl
@[simp] theorem State.acknowledge_fbWritten (s : State) (q : List HostRequest) (d : Option Word) : (s.acknowledge q d).fbWritten = s.fbWritten := rfl
@[simp] theorem State.acknowledge_resets (s : State) (q : List HostRequest) (d : Option Word) : (s.acknowledge q d).resets = s.resets := rfl
@[simp] theorem State.acknowledge_flen (s : State) (q : List HostRequest) (d : Option Word) : (s.acknowledge q d).flen = s.flen := rfl
@[simp] theorem State.acknowledge_attached (s : State) (q : List HostRequest) (d : Option Word) : (s.acknowledge q d).attached = s.attached := rfl
@[simp] theorem State.acknowledge_variant (s : State) (q : List HostRequest) (d : Option Word) : (s.acknowledge q d).variant = s.variant := rfl
@[simp] theorem State.acknowledge_errAny (s : State) (q : List HostRequest) (d : Option Word) : (s.acknowledge q d).errAny = s.errAny := rfl
@[simp] theorem State.acknowledge_errCode (s : State) (q : List HostRequest) (d : Option Word) : (s.acknowledge q d).errCode = s.errCode := rfl
@[simp] theorem State.acknowledge_xr (s : State) (q : List HostRequest) (d : Option Word) : (s.acknowledge q d).xr = s.xr := rfl
@[simp] theorem State.acknowledge_fseq (s : State) (q : List HostRequest) (d : Option Word) : (s.acknowledge q d).fseq = s.fseq := rfl
@[simp] theorem State.acknowledge_frame (s : State) (q : List HostRequest) (d : Option Word) : (s.acknowledge q d).frame = s.frame := rfl
@[simp] theorem State.acknowledge_pending (s : State) (q : List HostRequest) (d : Option Word) : (s.acknowledge q d).pending = s.pending := rfl
@[simp] theorem State.acknowledge_wait (s : State) (q : List HostRequest) (d : Option Word) : (s.acknowledge q d).wait = s.wait := rfl
@[simp] theorem State.acknowledge_rstLine (s : State) (q : List HostRequest) (d : Option Word) : (s.acknowledge q d).rstLine = s.rstLine := rfl
@[simp] theorem State.acknowledge_hostQueue (s : State) (q : List HostRequest) (d : Option Word) : (s.acknowledge q d).hostQueue = q := rfl
@[simp] theorem State.acknowledge_ack (s : State) (q : List HostRequest) (d : Option Word) : (s.acknowledge q d).ack = true := rfl
@[simp] theorem State.acknowledge_rdata (s : State) (q : List HostRequest) (d : Option Word) : (s.acknowledge q d).rdata = d := rfl
@[simp] theorem State.acknowledge_cmdDone (s : State) (q : List HostRequest) (d : Option Word) : (s.acknowledge q d).cmdDone = s.cmdDone := rfl
@[simp] theorem State.acknowledge_frameCommit (s : State) (q : List HostRequest) (d : Option Word) : (s.acknowledge q d).frameCommit = s.frameCommit := rfl
@[simp] theorem State.acknowledge_fbByte (s : State) (q : List HostRequest) (d : Option Word) (k : Nat) : (s.acknowledge q d).fbByte k = s.fbByte k := rfl

/-! ### skipIdle: an idle port cycle -/

@[simp] theorem State.skipIdle_fb (s : State) (q : List HostRequest) : (s.skipIdle q).fb = s.fb := rfl
@[simp] theorem State.skipIdle_fbWritten (s : State) (q : List HostRequest) : (s.skipIdle q).fbWritten = s.fbWritten := rfl
@[simp] theorem State.skipIdle_resets (s : State) (q : List HostRequest) : (s.skipIdle q).resets = s.resets := rfl
@[simp] theorem State.skipIdle_flen (s : State) (q : List HostRequest) : (s.skipIdle q).flen = s.flen := rfl
@[simp] theorem State.skipIdle_attached (s : State) (q : List HostRequest) : (s.skipIdle q).attached = s.attached := rfl
@[simp] theorem State.skipIdle_variant (s : State) (q : List HostRequest) : (s.skipIdle q).variant = s.variant := rfl
@[simp] theorem State.skipIdle_errAny (s : State) (q : List HostRequest) : (s.skipIdle q).errAny = s.errAny := rfl
@[simp] theorem State.skipIdle_errCode (s : State) (q : List HostRequest) : (s.skipIdle q).errCode = s.errCode := rfl
@[simp] theorem State.skipIdle_xr (s : State) (q : List HostRequest) : (s.skipIdle q).xr = s.xr := rfl
@[simp] theorem State.skipIdle_fseq (s : State) (q : List HostRequest) : (s.skipIdle q).fseq = s.fseq := rfl
@[simp] theorem State.skipIdle_frame (s : State) (q : List HostRequest) : (s.skipIdle q).frame = s.frame := rfl
@[simp] theorem State.skipIdle_pending (s : State) (q : List HostRequest) : (s.skipIdle q).pending = s.pending := rfl
@[simp] theorem State.skipIdle_wait (s : State) (q : List HostRequest) : (s.skipIdle q).wait = s.wait := rfl
@[simp] theorem State.skipIdle_rstLine (s : State) (q : List HostRequest) : (s.skipIdle q).rstLine = s.rstLine := rfl
@[simp] theorem State.skipIdle_hostQueue (s : State) (q : List HostRequest) : (s.skipIdle q).hostQueue = q := rfl
@[simp] theorem State.skipIdle_ack (s : State) (q : List HostRequest) : (s.skipIdle q).ack = s.ack := rfl
@[simp] theorem State.skipIdle_rdata (s : State) (q : List HostRequest) : (s.skipIdle q).rdata = s.rdata := rfl
@[simp] theorem State.skipIdle_cmdDone (s : State) (q : List HostRequest) : (s.skipIdle q).cmdDone = s.cmdDone := rfl
@[simp] theorem State.skipIdle_frameCommit (s : State) (q : List HostRequest) : (s.skipIdle q).frameCommit = s.frameCommit := rfl
@[simp] theorem State.skipIdle_fbByte (s : State) (q : List HostRequest) (k : Nat) : (s.skipIdle q).fbByte k = s.fbByte k := rfl

/-! ### countDown: a waiting cycle -/

@[simp] theorem State.countDown_fb (s : State) : s.countDown.fb = s.fb := rfl
@[simp] theorem State.countDown_fbWritten (s : State) : s.countDown.fbWritten = s.fbWritten := rfl
@[simp] theorem State.countDown_resets (s : State) : s.countDown.resets = s.resets := rfl
@[simp] theorem State.countDown_flen (s : State) : s.countDown.flen = s.flen := rfl
@[simp] theorem State.countDown_attached (s : State) : s.countDown.attached = s.attached := rfl
@[simp] theorem State.countDown_variant (s : State) : s.countDown.variant = s.variant := rfl
@[simp] theorem State.countDown_errAny (s : State) : s.countDown.errAny = s.errAny := rfl
@[simp] theorem State.countDown_errCode (s : State) : s.countDown.errCode = s.errCode := rfl
@[simp] theorem State.countDown_xr (s : State) : s.countDown.xr = s.xr := rfl
@[simp] theorem State.countDown_fseq (s : State) : s.countDown.fseq = s.fseq := rfl
@[simp] theorem State.countDown_frame (s : State) : s.countDown.frame = s.frame := rfl
@[simp] theorem State.countDown_pending (s : State) : s.countDown.pending = s.pending := rfl
@[simp] theorem State.countDown_wait (s : State) : s.countDown.wait = s.wait - 1 := rfl
@[simp] theorem State.countDown_rstLine (s : State) : s.countDown.rstLine = s.rstLine := rfl
@[simp] theorem State.countDown_hostQueue (s : State) : s.countDown.hostQueue = s.hostQueue := rfl
@[simp] theorem State.countDown_ack (s : State) : s.countDown.ack = s.ack := rfl
@[simp] theorem State.countDown_rdata (s : State) : s.countDown.rdata = s.rdata := rfl
@[simp] theorem State.countDown_cmdDone (s : State) : s.countDown.cmdDone = s.cmdDone := rfl
@[simp] theorem State.countDown_frameCommit (s : State) : s.countDown.frameCommit = s.frameCommit := rfl
@[simp] theorem State.countDown_fbByte (s : State) (k : Nat) : s.countDown.fbByte k = s.fbByte k := rfl

/-! ### beginCycle: a cycle's start -/

@[simp] theorem State.beginCycle_fb (s : State) : s.beginCycle.fb = s.fb := rfl
@[simp] theorem State.beginCycle_fbWritten (s : State) : s.beginCycle.fbWritten = s.fbWritten := rfl
@[simp] theorem State.beginCycle_resets (s : State) : s.beginCycle.resets = s.resets := rfl
@[simp] theorem State.beginCycle_flen (s : State) : s.beginCycle.flen = s.flen := rfl
@[simp] theorem State.beginCycle_attached (s : State) : s.beginCycle.attached = s.attached := rfl
@[simp] theorem State.beginCycle_variant (s : State) : s.beginCycle.variant = s.variant := rfl
@[simp] theorem State.beginCycle_errAny (s : State) : s.beginCycle.errAny = s.errAny := rfl
@[simp] theorem State.beginCycle_errCode (s : State) : s.beginCycle.errCode = s.errCode := rfl
@[simp] theorem State.beginCycle_xr (s : State) : s.beginCycle.xr = s.xr := rfl
@[simp] theorem State.beginCycle_fseq (s : State) : s.beginCycle.fseq = s.fseq := rfl
@[simp] theorem State.beginCycle_frame (s : State) : s.beginCycle.frame = s.frame := rfl
@[simp] theorem State.beginCycle_pending (s : State) : s.beginCycle.pending = s.pending := rfl
@[simp] theorem State.beginCycle_wait (s : State) : s.beginCycle.wait = s.wait := rfl
@[simp] theorem State.beginCycle_rstLine (s : State) : s.beginCycle.rstLine = s.rstLine.tail := rfl
@[simp] theorem State.beginCycle_hostQueue (s : State) : s.beginCycle.hostQueue = s.hostQueue := rfl
@[simp] theorem State.beginCycle_ack (s : State) : s.beginCycle.ack = false := rfl
@[simp] theorem State.beginCycle_rdata (s : State) : s.beginCycle.rdata = none := rfl
@[simp] theorem State.beginCycle_cmdDone (s : State) : s.beginCycle.cmdDone = false := rfl
@[simp] theorem State.beginCycle_frameCommit (s : State) : s.beginCycle.frameCommit = false := rfl
@[simp] theorem State.beginCycle_fbByte (s : State) (k : Nat) : s.beginCycle.fbByte k = s.fbByte k := rfl

end Sys2Proof.Machine
end

