-- ==== Sys2Proof/Laws/Memory.lean ====
section
/-! SUPPORT. The laws of byte storage and of the frame buffer: a read after a write, and the canonical form. -/

namespace Sys2Proof.Machine

@[simp] theorem Memory.read_nil (a : Nat) : Memory.read [] a = Memory.unlisted := rfl

theorem Memory.read_cons (k : Nat) (v : Byte) (m : Memory) (a : Nat) :
    Memory.read ((k, v) :: m) a = if k = a then v else Memory.read m a := rfl

theorem Memory.wfFrom_cons (lo k : Nat) (v : Byte) (m : Memory) :
    Memory.wfFrom lo ((k, v) :: m) = true ↔ lo ≤ k ∧ v ≠ Memory.unlisted ∧ Memory.wfFrom (k + 1) m = true := by
  simp [Memory.wfFrom, and_assoc]

/-- A canonical storage is canonical from any lower bound. -/
theorem Memory.wfFrom_mono {lo lo' : Nat} (h : lo' ≤ lo) :
    ∀ {m : Memory}, Memory.wfFrom lo m = true → Memory.wfFrom lo' m = true
  | [], _ => rfl
  | (k, v) :: m, hm => by
    rw [Memory.wfFrom_cons] at hm ⊢
    exact ⟨h.trans hm.1, hm.2⟩

/-- No address below the bound is listed. -/
theorem Memory.read_below {a : Nat} :
    ∀ {m : Memory} {lo : Nat}, Memory.wfFrom lo m = true → a < lo → Memory.read m a = Memory.unlisted
  | [], _, _, _ => rfl
  | (k, v) :: m, lo, hm, ha => by
    rw [Memory.wfFrom_cons] at hm
    rw [Memory.read_cons, if_neg (by omega), Memory.read_below hm.2.2 (by omega)]

/-- A read after a write: the written byte at its address, every other byte as before. -/
theorem Memory.read_write (a : Nat) (v : Byte) (b : Nat) :
    ∀ {m : Memory} {lo : Nat}, Memory.wfFrom lo m = true →
      Memory.read (Memory.write m a v) b = if b = a then v else Memory.read m b
  | [], _, _ => by
    by_cases hv : v = Memory.unlisted <;> by_cases hb : a = b <;>
      simp [Memory.write, Memory.read, hv, hb, eq_comm (a := b)]
  | (k, x) :: m, lo, hm => by
    rw [Memory.wfFrom_cons] at hm
    have below : ∀ c, c ≤ k → Memory.read m c = Memory.unlisted :=
      fun c hc => Memory.read_below hm.2.2 (by omega)
    unfold Memory.write
    by_cases h1 : a < k
    · rw [if_pos h1]
      by_cases hv : v = Memory.unlisted
      · rw [if_pos hv, Memory.read_cons]
        by_cases hb : b = a
        · rw [if_neg (by omega), below b (by omega), if_pos hb, hv]
        · rw [if_neg hb]
      · rw [if_neg hv, Memory.read_cons]
        by_cases hb : a = b <;> simp [hb, eq_comm (a := b), Memory.read_cons]
    · rw [if_neg h1]
      by_cases h2 : a = k
      · rw [if_pos h2]
        by_cases hv : v = Memory.unlisted
        · rw [if_pos hv, Memory.read_cons]
          by_cases hb : b = a
          · rw [below b (by omega), if_pos hb, hv]
          · rw [if_neg hb, if_neg (by omega)]
        · rw [if_neg hv, Memory.read_cons, Memory.read_cons]
          by_cases hb : b = a
          · rw [if_pos (by omega), if_pos hb]
          · rw [if_neg (by omega), if_neg hb, if_neg (by omega)]
      · rw [if_neg h2, Memory.read_cons, Memory.read_cons, Memory.read_write a v b hm.2.2]
        by_cases hb : b = a
        · rw [if_neg (by omega), if_pos hb, if_pos hb]
        · by_cases hk : k = b <;> simp [hb, hk]

/-- A write keeps the canonical form. -/
theorem Memory.wfFrom_write (a : Nat) (v : Byte) :
    ∀ {m : Memory} {lo : Nat}, lo ≤ a → Memory.wfFrom lo m = true → Memory.wfFrom lo (Memory.write m a v) = true
  | [], lo, ha, _ => by
    by_cases hv : v = Memory.unlisted <;> simp [Memory.write, Memory.wfFrom, hv, ha]
  | (k, x) :: m, lo, ha, hm => by
    have hm' := (Memory.wfFrom_cons lo k x m).1 hm
    unfold Memory.write
    by_cases h1 : a < k
    · rw [if_pos h1]
      by_cases hv : v = Memory.unlisted
      · rw [if_pos hv]; exact hm
      · rw [if_neg hv, Memory.wfFrom_cons, Memory.wfFrom_cons]
        exact ⟨ha, hv, by omega, hm'.2⟩
    · rw [if_neg h1]
      by_cases h2 : a = k
      · rw [if_pos h2]
        by_cases hv : v = Memory.unlisted
        · rw [if_pos hv]; exact Memory.wfFrom_mono (by omega) hm'.2.2
        · rw [if_neg hv, Memory.wfFrom_cons]
          exact ⟨ha, hv, h2 ▸ hm'.2.2⟩
      · rw [if_neg h2, Memory.wfFrom_cons]
        exact ⟨hm'.1, hm'.2.1, Memory.wfFrom_write a v (by omega) hm'.2.2⟩

/-- Every operation on storage keeps the canonical form. -/
theorem Memory.wf_write {m : Memory} (h : Memory.wf m = true) (a : Nat) (v : Byte) :
    Memory.wf (Memory.write m a v) = true := Memory.wfFrom_write a v (Nat.zero_le a) h

/-- The reset storage is canonical. -/
theorem Memory.wf_reset : Memory.wf State.reset.fb = true := rfl

/-- A write lists no address but its own and those listed before. -/
theorem Memory.mem_write {a : Nat} {v : Byte} {c : Host.Cell} :
    ∀ {m : Memory}, c ∈ Memory.write m a v → c.1 = a ∨ c ∈ m
  | [], h => by
    by_cases hv : v = Memory.unlisted <;> simp [Memory.write, hv] at h
    exact Or.inl (by rw [h])
  | (k, x) :: m, h => by
    unfold Memory.write at h
    split_ifs at h <;> simp only [List.mem_cons] at h ⊢
    · exact Or.inr h
    · rcases h with rfl | h
      · exact Or.inl rfl
      · exact Or.inr h
    · exact Or.inr (Or.inr h)
    · rcases h with rfl | h
      · exact Or.inl rfl
      · exact Or.inr (Or.inr h)
    · rcases h with rfl | h
      · exact Or.inr (Or.inl rfl)
      · rcases Memory.mem_write h with h | h
        · exact Or.inl h
        · exact Or.inr (Or.inr h)

/-- Which bytes count as written after one byte was set. -/
theorem written_or_bit (x : BitVec 128) (a k : Nat) :
    (x ||| (1#128 <<< a)).getLsbD k = (x.getLsbD k || decide (k = a ∧ a < 128)) := by
  by_cases hk : k < 128 <;> by_cases ha : k = a
  · subst ha; simp [hk]
  · have : ¬ (¬ k < a ∧ k - a = 0) := by omega
    by_cases h : k < a <;> simp [hk, ha, h]
    omega
  · subst ha; simp [hk]
  · simp [ha, hk]

/-- A read of FB after one byte was set (R67): that byte is the one set, every other byte is as before. -/
theorem State.fbByte_setFbByte {s : State} (h : Memory.wf s.fb = true) {a : Nat} (ha : a < 128) (v : Byte) (k : Nat) :
    (s.setFbByte a v).fbByte k = if k = a then v else s.fbByte k := by
  unfold State.fbByte
  rw [State.setFbByte_fb, State.setFbByte_fbWritten, State.setFbByte_resets, written_or_bit, Memory.read_write a v k h]
  by_cases hk : k = a <;> simp [hk, ha]

end Sys2Proof.Machine
end

