-- ==== Sys2Proof/Laws/Operands.lean ====
section
/-! SUPPORT. What the operand forms compute: the little-endian sum, the gathered bits, the lane sums, the clamp, and the
cases of a checked field read. -/

namespace Sys2Proof.Machine

@[simp] theorem memRead_zero (b : Nat → Byte) (off : Nat) : memRead b off 0 = 0 := rfl

theorem memRead_succ (b : Nat → Byte) (off n : Nat) :
    memRead b off (n + 1) = (b off).toNat + 256 * memRead b (off + 1) n := rfl

/-- A field reads only its own bytes. -/
theorem memRead_congr {b b' : Nat → Byte} {n : Nat} :
    ∀ {off : Nat}, (∀ i, i < n → b (off + i) = b' (off + i)) → memRead b off n = memRead b' off n := by
  induction n with
  | zero => intro off _; rfl
  | succ n ih =>
    intro off h
    rw [memRead_succ, memRead_succ, show b off = b' off from h 0 (by omega), ih]
    intro i hi
    have := h (i + 1) (by omega)
    rwa [show off + (i + 1) = off + 1 + i by omega] at this

/-- An n-byte field has 8n bits. -/
theorem memRead_lt (b : Nat → Byte) (n : Nat) : ∀ off, memRead b off n < 256 ^ n := by
  induction n with
  | zero => intro off; simp
  | succ n ih =>
    intro off
    have h1 := ih (off + 1)
    have h2 := (b off).isLt
    rw [memRead_succ, Nat.pow_succ]
    omega

theorem lowBits_lt (w v : Nat) : lowBits w v < 2 ^ w := Nat.mod_lt _ (Nat.two_pow_pos w)

/-- The gathered pattern has the given bits. -/
theorem getLsbD_gather : ∀ (n : Nat) (f : Fin n → Bool) (i : Nat) (h : i < n), (gather n f).getLsbD i = f ⟨i, h⟩
  | 0, _, _, h => absurd h (Nat.not_lt_zero _)
  | n + 1, f, i, h => by
    rw [gather, BitVec.getLsbD_cons]
    by_cases hi : i = n
    · subst hi; simp [Fin.last]
    · rw [if_neg hi, getLsbD_gather n _ i (by omega)]; rfl

@[simp] theorem sumLanes_zero (f : Nat → Nat) : sumLanes f 0 = 0 := rfl

theorem sumLanes_succ (f : Nat → Nat) (n : Nat) : sumLanes f (n + 1) = sumLanes f n + f n := rfl

/-- Lanes that agree have the same sum. -/
theorem sumLanes_congr {f g : Nat → Nat} {n : Nat} (h : ∀ i, i < n → f i = g i) : sumLanes f n = sumLanes g n := by
  induction n with
  | zero => rfl
  | succ n ih => rw [sumLanes_succ, sumLanes_succ, ih fun i hi => h i (by omega), h n (by omega)]

/-- A sum of bounded lanes is bounded. -/
theorem sumLanes_le {f : Nat → Nat} {m : Nat} (h : ∀ i, f i ≤ m) (n : Nat) : sumLanes f n ≤ n * m := by
  induction n with
  | zero => simp
  | succ n ih => rw [sumLanes_succ, Nat.succ_mul]; exact Nat.add_le_add ih (h n)

/-- A clamped value lies between its bounds. -/
theorem clamp_mem (v : Int) {lo hi : Int} (h : lo ≤ hi) : lo ≤ clamp v lo hi ∧ clamp v lo hi ≤ hi := by
  unfold clamp; split_ifs <;> omega

theorem touch12_le (b : Nat → Byte) (a : Nat) : touch12 b a ≤ 4095 := by
  have := ((b (a + 1)).extractLsb' 0 4 ++ b a).isLt
  simp only [touch12]; omega

/-- What a checked field read can answer (R100): WIDTH_ERR for a bad width, RANGE for a field past FB, else the value. -/
theorem fieldAt_cases (b : Nat → Byte) (off w : Nat) :
    (¬ (1 ≤ w ∧ w ≤ 32) ∧ fieldAt b off w = .error .widthErr) ∨
    ((1 ≤ w ∧ w ≤ 32) ∧ 128 < off + nbytes w ∧ fieldAt b off w = .error .range) ∨
    ((1 ≤ w ∧ w ≤ 32) ∧ off + nbytes w ≤ 128 ∧ fieldAt b off w = .ok (memRead b off (nbytes w))) := by
  unfold fieldAt
  simp only [Config.fbSize]
  by_cases h : w < 1 ∨ 32 < w
  · exact .inl ⟨by omega, if_pos h⟩
  · rw [if_neg h]
    by_cases h2 : 128 < off + nbytes w
    · exact .inr (.inl ⟨by omega, h2, if_pos h2⟩)
    · exact .inr (.inr ⟨by omega, by omega, if_neg h2⟩)

/-- What a checked packed read can answer (R103). -/
theorem packedAt_cases (b : Nat → Byte) (off : Nat) :
    (128 < off + 3 ∧ packedAt b off = .error .range) ∨ (off + 3 ≤ 128 ∧ packedAt b off = .ok (packed24 b off)) := by
  unfold packedAt
  simp only [Config.fbSize]
  by_cases h : 128 < off + 3
  · exact .inl ⟨h, if_pos h⟩
  · exact .inr ⟨by omega, if_neg h⟩

/-- The little-endian field as R61 writes it: the sum of its bytes, each at its place. -/
theorem memRead_eq_sum (b : Nat → Byte) (n : Nat) :
    ∀ off, memRead b off n = ∑ i ∈ Finset.range n, (b (off + i)).toNat * 2 ^ (8 * i) := by
  induction n with
  | zero => intro off; rfl
  | succ n ih =>
    intro off
    rw [memRead_succ, Finset.sum_range_succ', ih, Finset.mul_sum, Nat.add_comm]
    simp only [Nat.mul_zero, Nat.pow_zero, Nat.mul_one, Nat.add_zero]
    congr 1
    apply Finset.sum_congr rfl
    intro i _
    rw [show off + 1 + i = off + (i + 1) by omega, show 8 * (i + 1) = 8 * i + 8 by omega, Nat.pow_add]
    ring

/-- The lane sum as a finite sum (R130). -/
theorem sumLanes_eq_sum (f : Nat → Nat) (n : Nat) : sumLanes f n = ∑ i ∈ Finset.range n, f i := by
  induction n with
  | zero => rfl
  | succ n ih => rw [sumLanes_succ, Finset.sum_range_succ, ih]

/-- The value of a concatenation (R9). -/
theorem toNat_append_add {n m : Nat} (x : BitVec n) (y : BitVec m) :
    (x ++ y).toNat = x.toNat * 2 ^ m + y.toNat := by
  rw [BitVec.toNat_append, ← Nat.shiftLeft_add_eq_or_of_lt y.isLt, Nat.shiftLeft_eq]

/-- The unsigned value of a zero-extended field (R10). -/
theorem toNat_zext32 {w v : Nat} (h : w ≤ 32) : (zext32 w v).toNat = v % 2 ^ w := by
  have h1 := lowBits_lt w v
  have h2 : 2 ^ w ≤ 2 ^ 32 := Nat.pow_le_pow_right (by omega) h
  rw [zext32, BitVec.toNat_ofNat, Nat.mod_eq_of_lt (by omega)]; rfl

/-- A signed field of at most 32 bits fits a word (R9). -/
theorem signedBits_range {w : Nat} (v : Nat) (h1 : 1 ≤ w) (h2 : w ≤ 32) :
    -(2 ^ 31) ≤ signedBits w v ∧ signedBits w v < 2 ^ 31 := by
  have h := lowBits_lt w v
  have e : (2 : Nat) ^ w = 2 * 2 ^ (w - 1) := by rw [← Nat.pow_succ']; congr 1; omega
  have h3 : (2 : Nat) ^ (w - 1) ≤ 2 ^ 31 := Nat.pow_le_pow_right (by omega) (by omega)
  unfold signedBits
  rw [show (2 : Int) ^ w = ((2 ^ w : Nat) : Int) by push_cast; rfl]
  split <;> omega

/-- The signed value of a sign-extended field (R10). -/
theorem toInt_sext32 {w : Nat} (v : Nat) (h1 : 1 ≤ w) (h2 : w ≤ 32) : (sext32 w v).toInt = signedBits w v := by
  have := signedBits_range v h1 h2
  rw [sext32, BitVec.toInt_ofInt, Int.bmod_eq_of_le] <;> norm_num at * <;> omega

/-- The signed value of a little-endian pair: the high byte carries the sign (R126). -/
theorem signedBits_pair (b : Nat → Byte) (a : Nat) :
    signedBits 16 (memRead b a 2) = ((b a).toNat : Int) + 256 * (b (a + 1)).toInt := by
  have h0 := (b a).isLt
  have h1 := (b (a + 1)).isLt
  rw [BitVec.toInt_eq_toNat_cond, signedBits, lowBits]
  simp only [memRead]
  split_ifs <;> omega

/-- A stick register's signed value is the clamped raw value (R126, R127). -/
theorem toInt_stickAxis (b : Nat → Byte) (i : Nat) :
    (stickAxis b i).toInt = clamp (signedBits 16 (memRead b (6 + 2 * i) 2)) 900 3200 := by
  have := clamp_mem (signedBits 16 (memRead b (6 + 2 * i) 2)) (lo := 900) (hi := 3200) (by omega)
  rw [stickAxis, Config.stickLo, Config.stickHi, BitVec.toInt_ofInt, Int.bmod_eq_of_le] <;> norm_num <;> omega

/-- A touch sum fits its 16-bit accumulator (R130). -/
theorem touchSumX_le (b : Nat → Byte) : touchSumX b ≤ 40950 := sumLanes_le (m := 4095) (fun _ => touch12_le _ _) 10

/-- A touch sum fits its 16-bit accumulator (R130). -/
theorem touchSumY_le (b : Nat → Byte) : touchSumY b ≤ 40950 := sumLanes_le (m := 4095) (fun _ => touch12_le _ _) 10

/-- Both variants decode everything but motion alike (R3, R120). -/
theorem decodeFrame_shared (pos : Fin 17 → Fin 32) (b : Nat → Byte) (v : Variant) :
    (decodeFrame pos b v).btnMask = buttonMask b ∧ (decodeFrame pos b v).btn = buttons pos (buttonMask b) ∧
    (decodeFrame pos b v).stickLX = stickAxis b 0 ∧ (decodeFrame pos b v).stickLY = stickAxis b 1 ∧
    (decodeFrame pos b v).stickRX = stickAxis b 2 ∧ (decodeFrame pos b v).stickRY = stickAxis b 3 ∧
    (decodeFrame pos b v).vol = b 14 ∧ (decodeFrame pos b v).tsumX = BitVec.ofNat 16 (touchSumX b) ∧
    (decodeFrame pos b v).tsumY = BitVec.ofNat 16 (touchSumY b) ∧
    (decodeFrame pos b v).touchX = BitVec.ofNat 12 (touchSumX b / 10) ∧
    (decodeFrame pos b v).touchY = BitVec.ofNat 13 (4096 - touchSumY b / 10) ∧
    (decodeFrame pos b v).pres = pressMask b ∧ (decodeFrame pos b v).tact = touchActive (pressMask b) := by
  cases v <;> exact ⟨rfl, rfl, rfl, rfl, rfl, rfl, rfl, rfl, rfl, rfl, rfl, rfl, rfl⟩

/-- Bit j of BTN is the mask's bit at button j's position (R124). -/
theorem getLsbD_buttons (pos : Fin 17 → Fin 32) (mask : Word) (j : Fin 17) :
    (buttons pos mask).getLsbD j.val = mask.getLsbD (pos j).val := by
  rw [buttons, getLsbD_gather _ _ _ j.isLt]

end Sys2Proof.Machine
end

