-- ==== Sys2Proof/Laws/Exec.lean ====
section
/-! SUPPORT. What each meaning can answer, said once: the inversion lemmas of the commands and of a completion. -/

namespace Sys2Proof.Machine

/-- EXTU ends with WIDTH_ERR, with RANGE, or with the zero-extended field in XR (R101). -/
theorem execExtu_cases (off w : Nat) (s : State) :
    (¬ (1 ≤ w ∧ w ≤ 32) ∧ execExtu off w s = .next (s.finish .widthErr)) ∨
    ((1 ≤ w ∧ w ≤ 32) ∧ 128 < off + nbytes w ∧ execExtu off w s = .next (s.finish .range)) ∨
    ((1 ≤ w ∧ w ≤ 32) ∧ off + nbytes w ≤ 128 ∧
      execExtu off w s = .next ((s.setXr (zext32 w (memRead s.fbByte off (nbytes w)))).finish .ok)) := by
  rcases fieldAt_cases s.fbByte off w with ⟨h, e⟩ | ⟨h, h2, e⟩ | ⟨h, h2, e⟩ <;> simp [execExtu, e, h] <;> omega

/-- EXTS ends with WIDTH_ERR, with RANGE, or with the sign-extended field in XR (R102). -/
theorem execExts_cases (off w : Nat) (s : State) :
    (¬ (1 ≤ w ∧ w ≤ 32) ∧ execExts off w s = .next (s.finish .widthErr)) ∨
    ((1 ≤ w ∧ w ≤ 32) ∧ 128 < off + nbytes w ∧ execExts off w s = .next (s.finish .range)) ∨
    ((1 ≤ w ∧ w ≤ 32) ∧ off + nbytes w ≤ 128 ∧
      execExts off w s = .next ((s.setXr (sext32 w (memRead s.fbByte off (nbytes w)))).finish .ok)) := by
  rcases fieldAt_cases s.fbByte off w with ⟨h, e⟩ | ⟨h, h2, e⟩ | ⟨h, h2, e⟩ <;> simp [execExts, e, h] <;> omega

/-- EXTP24 ends with RANGE, or with the packed field in XR (R103). -/
theorem execExtp24_cases (off : Nat) (s : State) :
    (128 < off + 3 ∧ execExtp24 off s = .next (s.finish .range)) ∨
    (off + 3 ≤ 128 ∧ execExtp24 off s = .next ((s.setXr (packed24 s.fbByte off)).finish .ok)) := by
  rcases packedAt_cases s.fbByte off with ⟨h, e⟩ | ⟨h, e⟩ <;> simp [execExtp24, e] <;> omega

/-- DECODE ends with NOT_ATTACHED, with INVALID_FRAME_LENGTH, or with one commit (R120). -/
theorem execDecode_cases (s : State) :
    (s.attached = false ∧ execDecode s = .next (s.finish .notAttached)) ∨
    (s.attached = true ∧ s.flen ≠ 128 ∧ execDecode s = .next (s.finish .invalidFrameLength)) ∨
    (s.attached = true ∧ s.flen = 128 ∧
      execDecode s =
        .next (s.setFrame (decodeFrame Config.buttonBit s.fbByte s.variant) (s.fseq + 1)).commitFrame) := by
  by_cases h : s.attached = true
  · by_cases h2 : s.flen = Config.frameLen
    · exact .inr (.inr ⟨h, h2, by rw [execDecode, if_neg (by simp [h]), if_neg (by simp [h2])]⟩)
    · exact .inr (.inl ⟨h, h2, by rw [execDecode, if_neg (by simp [h]), if_pos h2]; rfl⟩)
  · exact .inl ⟨by simpa using h, by rw [execDecode, if_pos (by simpa using h)]; rfl⟩

/-- ATTACH ends with ALREADY_ATTACHED, with BAD_VARIANT, or with a lifetime opened and the results cleared (R161). -/
theorem execAttach_cases (v : Nat) (s : State) :
    (s.attached = true ∧ execAttach v s = .next (s.finish .alreadyAttached)) ∨
    (s.attached = false ∧ 2 ≤ v ∧ execAttach v s = .next (s.finish .badVariant)) ∨
    (s.attached = false ∧ v ≤ 1 ∧
      execAttach v s =
        .next (((s.setLifetime true (if v = 1 then .extended else .basic)).setFrame .cleared 0).finish .ok)) := by
  by_cases h : s.attached = true
  · simp [execAttach, h]
  · have h' : s.attached = false := by simpa using h
    match v with
    | 0 => simp [execAttach, h', variantOfCode]
    | 1 => simp [execAttach, h', variantOfCode]
    | v + 2 => simp [execAttach, h', variantOfCode]

/-- What the meaning of a command can answer, whichever it is: an error on the state it found, a success with XR written
by an extraction, a commit by DECODE, a lifetime opened by ATTACH, one closed by DETACH, or nothing by NOP. -/
theorem exec_cases (i : Instr) (s : State) :
    (∃ c, c ≠ .ok ∧ exec i s = .next (s.finish c)) ∨
    (∃ x off w, (i = .extu off w ∨ i = .exts off w ∨ i = .extp24 off) ∧ exec i s = .next ((s.setXr x).finish .ok)) ∨
    (i = .decode ∧ s.attached = true ∧ s.flen = 128 ∧
      exec i s = .next (s.setFrame (decodeFrame Config.buttonBit s.fbByte s.variant) (s.fseq + 1)).commitFrame) ∨
    (∃ v, i = .attach v ∧ s.attached = false ∧
      exec i s = .next (((s.setLifetime true (if v = 1 then .extended else .basic)).setFrame .cleared 0).finish .ok)) ∨
    (i = .detach ∧ exec i s = .next ((s.setLifetime false .basic).finish .ok)) ∨
    (i = .nop ∧ exec i s = .next (s.finish .ok)) := by
  cases i with
  | nop => exact .inr (.inr (.inr (.inr (.inr ⟨rfl, rfl⟩))))
  | extu off w =>
    rcases execExtu_cases off w s with ⟨_, e⟩ | ⟨_, _, e⟩ | ⟨_, _, e⟩
    · exact .inl ⟨_, by decide, e⟩
    · exact .inl ⟨_, by decide, e⟩
    · exact .inr (.inl ⟨_, off, w, .inl rfl, e⟩)
  | exts off w =>
    rcases execExts_cases off w s with ⟨_, e⟩ | ⟨_, _, e⟩ | ⟨_, _, e⟩
    · exact .inl ⟨_, by decide, e⟩
    · exact .inl ⟨_, by decide, e⟩
    · exact .inr (.inl ⟨_, off, w, .inr (.inl rfl), e⟩)
  | extp24 off =>
    rcases execExtp24_cases off s with ⟨_, e⟩ | ⟨_, e⟩
    · exact .inl ⟨_, by decide, e⟩
    · exact .inr (.inl ⟨_, off, 0, .inr (.inr rfl), e⟩)
  | decode =>
    rcases execDecode_cases s with ⟨_, e⟩ | ⟨_, _, e⟩ | ⟨h, h2, e⟩
    · exact .inl ⟨_, by decide, e⟩
    · exact .inl ⟨_, by decide, e⟩
    · exact .inr (.inr (.inl ⟨rfl, h, h2, e⟩))
  | attach v =>
    rcases execAttach_cases v s with ⟨_, e⟩ | ⟨_, _, e⟩ | ⟨h, _, e⟩
    · exact .inl ⟨_, by decide, e⟩
    · exact .inl ⟨_, by decide, e⟩
    · exact .inr (.inr (.inr (.inl ⟨v, rfl, h, e⟩)))
  | detach => exact .inr (.inr (.inr (.inr (.inl ⟨rfl, rfl⟩))))

/-- A completion is a meaning, or ILLEGAL_OP (R84). -/
theorem completeCommand_cases (c : Command) (s : State) :
    (∃ i, decodeIssued c.be c.word = .ok i ∧ completeCommand c s = exec i s) ∨
    ((∀ i, decodeIssued c.be c.word ≠ .ok i) ∧ completeCommand c s = .next (s.finish .illegalOp)) := by
  unfold completeCommand
  cases h : decodeIssued c.be c.word with
  | ok i => exact .inl ⟨i, rfl, rfl⟩
  | error e => exact .inr ⟨by simp, rfl⟩

end Sys2Proof.Machine
end

