-- ==== Sys2Proof/Laws/PerInstr.lean ====
section
/-! SUPPORT. The per-instruction family EncodeSelects: the word of a well-formed command is selected by a row of R83's
table, and that row assembles the command again, every operand included. -/

namespace Sys2Proof.Laws

/-- The family's statement. -/
def EncodeSelects.Statement (i : Instr) : Prop :=
  i.WellFormed → ∃ r ∈ opRows, r.selects (encode i) = true ∧ assemble r.op (encode i) = some i

theorem EncodeSelects.nop : EncodeSelects.Statement .nop :=
  fun _ => ⟨⟨0x00000000, 0xFFFFFFFF, 0x0⟩, by simp [opRows], by decide, rfl⟩

theorem EncodeSelects.extu (off w : Nat) : EncodeSelects.Statement (.extu off w) := by
  intro h
  simp only [Instr.WellFormed, Instr.wellFormed, Bool.and_eq_true, decide_eq_true_eq] at h
  refine ⟨⟨0x00000001, 0xFFC080FF, 0x1⟩, by simp [opRows], ?_, ?_⟩
  · simp only [OpRow.selects, encode, layoutWord_and_extract]; decide
  · simp [assemble, encode, Nat.mod_eq_of_lt h.1, Nat.mod_eq_of_lt h.2]

theorem EncodeSelects.exts (off w : Nat) : EncodeSelects.Statement (.exts off w) := by
  intro h
  simp only [Instr.WellFormed, Instr.wellFormed, Bool.and_eq_true, decide_eq_true_eq] at h
  refine ⟨⟨0x00000002, 0xFFC080FF, 0x2⟩, by simp [opRows], ?_, ?_⟩
  · simp only [OpRow.selects, encode, layoutWord_and_extract]; decide
  · simp [assemble, encode, Nat.mod_eq_of_lt h.1, Nat.mod_eq_of_lt h.2]

theorem EncodeSelects.extp24 (off : Nat) : EncodeSelects.Statement (.extp24 off) := by
  intro h
  simp only [Instr.WellFormed, Instr.wellFormed, decide_eq_true_eq] at h
  refine ⟨⟨0x00000003, 0xFFFF80FF, 0x3⟩, by simp [opRows], ?_, ?_⟩
  · simp only [OpRow.selects, encode, layoutWord_and_packed]; decide
  · simp [assemble, encode, Nat.mod_eq_of_lt h]

theorem EncodeSelects.decode : EncodeSelects.Statement .decode :=
  fun _ => ⟨⟨0x00000004, 0xFFFFFFFF, 0x4⟩, by simp [opRows], by decide, rfl⟩

theorem EncodeSelects.attach (v : Nat) : EncodeSelects.Statement (.attach v) := by
  intro h
  simp only [Instr.WellFormed, Instr.wellFormed, decide_eq_true_eq] at h
  refine ⟨⟨0x00000005, 0xFCFFFFFF, 0x5⟩, by simp [opRows], ?_, ?_⟩
  · simp only [OpRow.selects, encode, layoutWord_and_attach]; decide
  · simp [assemble, encode, Nat.mod_eq_of_lt h]

theorem EncodeSelects.detach : EncodeSelects.Statement .detach :=
  fun _ => ⟨⟨0x00000006, 0xFFFFFFFF, 0x6⟩, by simp [opRows], by decide, rfl⟩

end Sys2Proof.Laws
end

