-- ==== Sys2Proof/Laws/Port.lean ====
section
/-! SUPPORT. The host port's register map, one read lemma per word address, and what a write of each register can do
(20_memory.md R66 to R71). -/

namespace Sys2Proof.Machine

/-! ### Reads (R66) -/

/-- A read of the FB window (R67). -/
theorem hostRead_fb (s : State) (w : BitVec 6) (h : w.toNat < 32) : hostRead s w = s.fbWord (4 * w.toNat) := by
  unfold hostRead byteAddr; rw [if_pos (by omega)]

@[simp] theorem hostRead_32 (s : State) : hostRead s 32 = 0 := rfl
@[simp] theorem hostRead_33 (s : State) : hostRead s 33 = s.statusWord := rfl
@[simp] theorem hostRead_34 (s : State) : hostRead s 34 = s.flen.setWidth 32 := rfl
@[simp] theorem hostRead_35 (s : State) : hostRead s 35 = s.cfgWord := rfl
@[simp] theorem hostRead_36 (s : State) : hostRead s 36 = s.xr := rfl
@[simp] theorem hostRead_37 (s : State) : hostRead s 37 = s.fseq.setWidth 32 := rfl
@[simp] theorem hostRead_38 (s : State) : hostRead s 38 = s.frame.tsumX.setWidth 32 := rfl
@[simp] theorem hostRead_39 (s : State) : hostRead s 39 = s.frame.tsumY.setWidth 32 := rfl
@[simp] theorem hostRead_40 (s : State) : hostRead s 40 = s.frame.btnMask := rfl
@[simp] theorem hostRead_41 (s : State) : hostRead s 41 = s.frame.btn.setWidth 32 := rfl
@[simp] theorem hostRead_42 (s : State) : hostRead s 42 = s.frame.stickLX.signExtend 32 := rfl
@[simp] theorem hostRead_43 (s : State) : hostRead s 43 = s.frame.stickLY.signExtend 32 := rfl
@[simp] theorem hostRead_44 (s : State) : hostRead s 44 = s.frame.stickRX.signExtend 32 := rfl
@[simp] theorem hostRead_45 (s : State) : hostRead s 45 = s.frame.stickRY.signExtend 32 := rfl
@[simp] theorem hostRead_46 (s : State) : hostRead s 46 = s.frame.vol.setWidth 32 := rfl
@[simp] theorem hostRead_47 (s : State) : hostRead s 47 = s.frame.touchX.setWidth 32 := rfl
@[simp] theorem hostRead_48 (s : State) : hostRead s 48 = s.frame.touchY.setWidth 32 := rfl
@[simp] theorem hostRead_49 (s : State) : hostRead s 49 = s.frame.pres.setWidth 32 := rfl
@[simp] theorem hostRead_50 (s : State) : hostRead s 50 = (BitVec.ofBool s.frame.tact).setWidth 32 := rfl
@[simp] theorem hostRead_51 (s : State) : hostRead s 51 = s.frame.accX.signExtend 32 := rfl
@[simp] theorem hostRead_52 (s : State) : hostRead s 52 = s.frame.accY.signExtend 32 := rfl
@[simp] theorem hostRead_53 (s : State) : hostRead s 53 = s.frame.accZ.signExtend 32 := rfl
@[simp] theorem hostRead_54 (s : State) : hostRead s 54 = s.frame.gyrX := rfl
@[simp] theorem hostRead_55 (s : State) : hostRead s 55 = s.frame.gyrY := rfl
@[simp] theorem hostRead_56 (s : State) : hostRead s 56 = s.frame.gyrZ := rfl
@[simp] theorem hostRead_57 (s : State) : hostRead s 57 = s.frame.magX.signExtend 32 := rfl
@[simp] theorem hostRead_58 (s : State) : hostRead s 58 = s.frame.magY.signExtend 32 := rfl
@[simp] theorem hostRead_59 (s : State) : hostRead s 59 = s.frame.magZ.signExtend 32 := rfl
@[simp] theorem hostRead_60 (s : State) : hostRead s 60 = 0 := rfl
@[simp] theorem hostRead_61 (s : State) : hostRead s 61 = 0 := rfl
@[simp] theorem hostRead_62 (s : State) : hostRead s 62 = 0 := rfl
@[simp] theorem hostRead_63 (s : State) : hostRead s 63 = 0 := rfl

/-! ### Writes (R66 to R71) -/

/-- What a write can do (R66 to R71): an FB word, an acceptance, a STATUS write, an FLEN write, or nothing. -/
theorem hostWrite_cases (s : State) (a : BitVec 6) (be : BitVec 4) (d : Word) :
    (a.toNat < 32 ∧ hostWrite s a be d = s.writeFbWord (4 * a.toNat) be d) ∨
    (a = 32 ∧ hostWrite s a be d = s.issue be d) ∨
    (a = 33 ∧ hostWrite s a be d = s.writeStatus be d) ∨
    (a = 34 ∧ hostWrite s a be d = s.writeFlen be d) ∨
    (35 ≤ a.toNat ∧ hostWrite s a be d = s) := by
  by_cases h : a.toNat < 32
  · exact .inl ⟨h, by unfold hostWrite byteAddr; rw [if_pos (by omega)]⟩
  · have hn : ¬ byteAddr a < 0x80 := by unfold byteAddr; omega
    have key : ∀ k : Nat, k < 64 → a.toNat = k → a = BitVec.ofNat 6 k := by
      intro k hk e; apply BitVec.eq_of_toNat_eq; rw [e, BitVec.toNat_ofNat]; omega
    by_cases h0 : a.toNat = 32
    · exact .inr (.inl ⟨key 32 (by omega) h0, by rw [key 32 (by omega) h0]; rfl⟩)
    by_cases h1 : a.toNat = 33
    · exact .inr (.inr (.inl ⟨key 33 (by omega) h1, by rw [key 33 (by omega) h1]; rfl⟩))
    by_cases h2 : a.toNat = 34
    · exact .inr (.inr (.inr (.inl ⟨key 34 (by omega) h2, by rw [key 34 (by omega) h2]; rfl⟩)))
    refine .inr (.inr (.inr (.inr ⟨by omega, ?_⟩)))
    unfold hostWrite
    rw [if_neg hn]
    split
    · rename_i e; simp only [byteAddr] at e; omega
    · rename_i e; simp only [byteAddr] at e; omega
    · rename_i e; simp only [byteAddr] at e; omega
    · rfl

/-- One lane of an FB write changes FB alone. -/
theorem writeLane_eq (s : State) (a : Nat) (be : BitVec 4) (d : Word) (i : Nat) :
    s.writeLane a be d i =
      { s with fb := (s.writeLane a be d i).fb, fbWritten := (s.writeLane a be d i).fbWritten } := by
  unfold State.writeLane; split <;> rfl

/-- An FB write changes FB alone (R67). -/
theorem writeFbWord_eq (s : State) (a : Nat) (be : BitVec 4) (d : Word) :
    s.writeFbWord a be d =
      { s with fb := (s.writeFbWord a be d).fb, fbWritten := (s.writeFbWord a be d).fbWritten } := by
  unfold State.writeFbWord
  rw [writeLane_eq _ a be d 3, writeLane_eq _ a be d 2, writeLane_eq _ a be d 1, writeLane_eq s a be d 0]

/-- One lane of an FB write: canonical storage stays so, the enabled lane's byte is set, every other byte is as before. -/
theorem writeLane_spec {s : State} (h : Memory.wf s.fb = true) {a i : Nat} (ha : a + i < 128) (be : BitVec 4) (d : Word)
    (k : Nat) :
    Memory.wf (s.writeLane a be d i).fb = true ∧
      (s.writeLane a be d i).fbByte k =
        if k = a + i then (if be.getLsbD i then lane d i else s.fbByte k) else s.fbByte k := by
  unfold State.writeLane
  split
  · refine ⟨by simp [Memory.wf_write h], ?_⟩
    rw [State.fbByte_setFbByte h ha]
  · refine ⟨h, ?_⟩
    split <;> rfl

/-- A STATUS write changes ERR_ANY alone (R69). -/
theorem writeStatus_eq (s : State) (be : BitVec 4) (d : Word) :
    s.writeStatus be d = { s with errAny := s.errAny && !(be.getLsbD 0 && d.getLsbD 1) } := by
  unfold State.writeStatus
  cases be.getLsbD 0 && d.getLsbD 1 <;> simp [State.clearErrAny]

/-- An FLEN write changes FLEN alone (R70). -/
theorem writeFlen_eq (s : State) (be : BitVec 4) (d : Word) :
    s.writeFlen be d = { s with flen := (s.writeFlen be d).flen } := rfl

end Sys2Proof.Machine
end

