-- ==== Sys2Proof/Laws/Step.lean ====
section
/-! SUPPORT. What a cycle of the port and a step can do, said once (R63, R74, R190). -/

namespace Sys2Proof.Machine

/-- What one cycle of the port can do: nothing, an idle cycle, a read, a held write, a performed write. -/
theorem portCycle_cases (s : State) :
    (s.hostQueue = [] ∧ portCycle s = s) ∨
    (∃ q, s.hostQueue = .idle :: q ∧ portCycle s = s.skipIdle q) ∨
    (∃ a q, s.hostQueue = .read a :: q ∧ portCycle s = s.acknowledge q (some (hostRead s a))) ∨
    (∃ a be d q, s.hostQueue = .write a be d :: q ∧ s.busy = true ∧ portCycle s = s) ∨
    (∃ a be d q, s.hostQueue = .write a be d :: q ∧ s.busy = false ∧
      portCycle s = (hostWrite s a be d).acknowledge q none) := by
  unfold portCycle
  split
  · exact .inl ⟨‹_›, rfl⟩
  · exact .inr (.inl ⟨_, ‹_›, rfl⟩)
  · exact .inr (.inr (.inl ⟨_, _, ‹_›, rfl⟩))
  · rename_i a be d q hq
    by_cases hb : s.busy = true
    · exact .inr (.inr (.inr (.inl ⟨a, be, d, q, hq, hb, if_pos hb⟩)))
    · exact .inr (.inr (.inr (.inr ⟨a, be, d, q, hq, by simpa using hb, if_neg hb⟩)))

/-- What a step can do: reset; or, after the port's cycle, stay idle, wait, or complete the pending command. -/
theorem step_cases (s : State) :
    (s.rstAsserted = true ∧ step s = .next s.resetCycle) ∨
    (s.rstAsserted = false ∧ (portCycle s.beginCycle).pending = none ∧ step s = .next (portCycle s.beginCycle)) ∨
    (s.rstAsserted = false ∧ (∃ c, (portCycle s.beginCycle).pending = some c) ∧ (portCycle s.beginCycle).wait ≠ 0 ∧
      step s = .next (portCycle s.beginCycle).countDown) ∨
    (s.rstAsserted = false ∧ ∃ c, (portCycle s.beginCycle).pending = some c ∧ (portCycle s.beginCycle).wait = 0 ∧
      step s = completeCommand c (portCycle s.beginCycle)) := by
  unfold step clockEdge
  by_cases hr : s.rstAsserted = true
  · exact .inl ⟨hr, if_pos hr⟩
  · have hr' : s.rstAsserted = false := by simpa using hr
    rw [if_neg hr]
    unfold advance
    cases hp : (portCycle s.beginCycle).pending with
    | none => exact .inr (.inl ⟨hr', rfl, rfl⟩)
    | some c =>
      by_cases hw : (portCycle s.beginCycle).wait = 0
      · exact .inr (.inr (.inr ⟨hr', c, rfl, hw, if_pos hw⟩))
      · exact .inr (.inr (.inl ⟨hr', ⟨c, rfl⟩, hw, if_neg hw⟩))

/-- One step of a run of the host's interface. -/
theorem run_of_step (M : Host.Core) (k : Nat) (s t : M.State) (h : M.step s = .next t) :
    M.run (k + 1) s = M.run k t := by
  simp only [Host.Core.run, h]

end Sys2Proof.Machine
end

