-- ==== Sys2Proof/Tests/Slice0.lean ====
section
/-! SUPPORT. Small tests: ill-formed commands, decoded words, one or two steps per command with results from
95_test_vectors.md, the port's vectors, and a witness for each statement's hypotheses. -/

namespace Sys2Proof.Tests

open Sys2Proof.Machine

/-! ### WellFormed refuses each ill-formed operand (R86) -/

theorem test_extu_offset_128_illFormed : (Instr.extu 128 8).wellFormed = false := by decide
theorem test_extu_width_64_illFormed : (Instr.extu 0 64).wellFormed = false := by decide
theorem test_exts_offset_128_illFormed : (Instr.exts 128 8).wellFormed = false := by decide
theorem test_exts_width_64_illFormed : (Instr.exts 0 64).wellFormed = false := by decide
theorem test_extp24_offset_128_illFormed : (Instr.extp24 128).wellFormed = false := by decide
theorem test_attach_4_illFormed : (Instr.attach 4).wellFormed = false := by decide
theorem test_extu_width_63_wellFormed : (Instr.extu 127 63).wellFormed = true := by decide

/-! ### Words written out bit by bit from R80 and R86, and the words of 95_test_vectors.md section 3 -/

theorem test_word_nop : decodeWord 0b00000000000000000000000000000000 = .ok .nop := by decide
theorem test_word_extu : decodeWord 0b00000000000100000000011000000001 = .ok (.extu 6 16) := by decide
theorem test_word_extu_limits : decodeWord 0b00000000001111110111111100000001 = .ok (.extu 127 63) := by decide
theorem test_word_exts : decodeWord 0b00000000000110000111110100000010 = .ok (.exts 125 24) := by decide
theorem test_word_extp24 : decodeWord 0b00000000000000000001010100000011 = .ok (.extp24 21) := by decide
theorem test_word_decode : decodeWord 0b00000000000000000000000000000100 = .ok .decode := by decide
theorem test_word_attach_extended : decodeWord 0b00000001000000000000000000000101 = .ok (.attach 1) := by decide
theorem test_word_attach_3 : decodeWord 0b00000011000000000000000000000101 = .ok (.attach 3) := by decide
theorem test_word_detach : decodeWord 0b00000000000000000000000000000110 = .ok .detach := by decide
theorem test_word_op7_illegal : decodeWord 0x00000007 = .error .reservedOpcode := by decide
theorem test_word_op15_illegal : decodeWord 0x0000000F = .error .reservedOpcode := by decide
theorem test_word_nop_bit8_illegal : decodeWord 0x00000100 = .error .nonLiveBit := by decide
theorem test_word_extu_bit7_illegal : decodeWord 0x00100681 = .error .nonLiveBit := by decide
theorem test_word_extu_bit15_illegal : decodeWord 0x00108601 = .error .nonLiveBit := by decide
theorem test_word_extu_bit22_illegal : decodeWord 0x00500601 = .error .nonLiveBit := by decide
theorem test_word_extu_var_illegal : decodeWord 0x01100601 = .error .nonLiveBit := by decide
theorem test_word_extp24_width_illegal : decodeWord 0x00181503 = .error .nonLiveBit := by decide
theorem test_word_attach_bit26_illegal : decodeWord 0x04000005 = .error .nonLiveBit := by decide
theorem test_word_detach_var_illegal : decodeWord 0x01000006 = .error .nonLiveBit := by decide
theorem test_partial_write_illegal : decodeIssued 0b0111 0x00100601 = .error .partialWrite := by decide
theorem test_encode_exts_6_16 : encode (.exts 6 16) = 0x00100602 := by decide
theorem test_encode_attach_2 : encode (.attach 2) = 0x02000005 := by decide

/-! ### A small state: every byte of FB written, those listed as given and the others 0x00 -/

/-- Attached with variant `v`, FLEN = 128, FB = Z except `cells` (95_test_vectors.md, conventions). -/
def frameState (v : Variant) (cells : Memory) : State :=
  { State.reset with fb := cells, fbWritten := BitVec.allOnes 128, flen := 128, attached := true, variant := v }

/-- The next state, where there is one. -/
def stateOf : Host.Outcome State Fault Refusal → Option State
  | .next s => some s
  | .fault _ => none
  | .refused _ => none

/-- A reading of the next state of a command. -/
def after {α : Type} (i : Instr) (s : State) (f : State → α) : Option α := (stateOf (exec i s)).map f

/-! ### Field extraction (95_test_vectors.md section 2) -/

theorem test_extu_6_16 :
    after (.extu 6 16) (frameState .basic [(6, 0xFF), (7, 0xFF)]) (fun t => (t.xr, t.errCode)) =
      some (0x0000FFFF, .ok) := by decide

theorem test_extu_width_before_range :
    after (.extu 127 0) { State.reset with xr := 0xA5A5A5A5 } (fun t => (t.xr, t.errCode)) =
      some (0xA5A5A5A5, .widthErr) := by decide

theorem test_exts_36_12 :
    after (.exts 36 12) (frameState .basic [(36, 0x34), (37, 0xF8)]) (fun t => (t.xr, t.errCode)) =
      some (0xFFFFF834, .ok) := by decide

theorem test_exts_125_24 :
    after (.exts 125 24) (frameState .basic [(125, 0x56), (126, 0x34), (127, 0x92)]) (fun t => t.xr) =
      some 0xFF923456 := by decide

theorem test_extp24_maximal_negative :
    after (.extp24 21) (frameState .basic [(23, 0x80)]) (fun t => (t.xr, t.errCode)) =
      some (0xFF800000, .ok) := by decide

theorem test_extp24_126_range :
    after (.extp24 126) { State.reset with xr := 0xA5A5A5A5 } (fun t => (t.xr, t.errCode, t.errAny)) =
      some (0xA5A5A5A5, .range, true) := by decide

/-! ### Frame decode (95_test_vectors.md sections 1, 4 and 6) -/

/-- The nonzero bytes of the frame of program P1. -/
def frameP1 : Memory :=
  [(2, 0x80), (3, 0x04), (7, 0x08), (8, 0x83), (9, 0x03), (10, 0x81), (11, 0x0C), (12, 0xFF), (13, 0xFF), (14, 0x80),
   (16, 0x80), (17, 0xFF), (18, 0x7F), (19, 0xFF), (20, 0xFF), (21, 0xFF), (22, 0xFF), (23, 0x7F), (26, 0x80)] ++
  [(27, 0x56), (28, 0x34), (29, 0x12), (30, 0x01), (32, 0xFE), (33, 0xFF), (34, 0x34), (35, 0x12),
   (36, 0xE8), (37, 0x13), (38, 0xF4), (39, 0x01), (40, 0xE9), (41, 0x03), (42, 0xF4), (43, 0x01)] ++
  [(44, 0xEA), (45, 0x03), (46, 0xF4), (47, 0x01), (48, 0xEB), (49, 0x03), (50, 0xF4), (51, 0x01),
   (52, 0xEC), (53, 0x03), (54, 0xF4), (55, 0x01), (56, 0xED), (57, 0x03), (58, 0xF4), (59, 0x01)] ++
  [(60, 0xEE), (61, 0x03), (62, 0xF4), (63, 0x01), (64, 0xEF), (65, 0x03), (66, 0xF4), (67, 0x01),
   (68, 0xF0), (69, 0x03), (70, 0xF4), (71, 0x01), (72, 0xF1), (73, 0x03), (74, 0xF4), (75, 0x01), (80, 0x40)]

theorem test_frameP1_canonical : Memory.wf frameP1 = true := by decide

/-- P1, but for BTN, which depends on the OPEN parameter, and motion. -/
theorem test_decode_P1 :
    after .decode (frameState .extended frameP1)
      (fun t => ([t.frame.btnMask.toNat, t.frame.stickLX.toNat, t.frame.stickLY.toNat, t.frame.stickRX.toNat,
        t.frame.stickRY.toNat, t.frame.vol.toNat, t.frame.tsumX.toNat, t.frame.tsumY.toNat, t.frame.touchX.toNat,
        t.frame.touchY.toNat, t.frame.pres.toNat, t.fseq.toNat], t.frame.tact, t.errCode, t.frameCommit)) =
      some ([0x00408004, 0x800, 0x384, 0xC80, 0x384, 0x80, 0x273D, 0x1388, 0x3EC, 0xE0C, 1, 1], true, .ok, true) := by
  decide

/-- P1's motion registers as a host reads them (pattern M of L1-7). -/
theorem test_decode_P1_motion :
    after .decode (frameState .extended frameP1) (fun t => [hostRead t 51, hostRead t 52, hostRead t 53, hostRead t 54,
        hostRead t 55, hostRead t 56, hostRead t 57, hostRead t 58, hostRead t 59]) =
      some [0xFFFF8000, 0x00007FFF, 0xFFFFFFFF, 0x007FFFFF, 0xFF800000, 0x00123456, 0x00000001, 0xFFFFFFFE,
        0x00001234] := by decide

/-- BTN over the candidate table of 93 GK1, given as an argument: P1 reads 0x0000A001. -/
theorem test_buttons_P1 :
    buttons (fun j => [2, 3, 4, 5, 6, 7, 8, 9, 10, 11, 12, 13, 14, 15, 1, 22, 23].getD j.val 0) 0x00408004 =
      0x0000A001 := by decide

/-! ### Control and the port (95_test_vectors.md section 5) -/

theorem test_nop_keeps_errAny :
    after .nop { State.reset with errCode := .invalidFrameLength, errAny := true } State.statusWord =
      some 0x00000002 := by decide

theorem test_attach_extended_from_reset : after (.attach 1) State.reset State.cfgWord = some 0x00000101 := by decide

theorem test_attach_checks_attached_first :
    after (.attach 2) (frameState .basic []) (fun t => (t.errCode, t.cfgWord)) =
      some (.alreadyAttached, 0x00000100) := by decide

theorem test_detach_keeps_results :
    after .detach { frameState .extended [] with frame := { DecodedFrame.cleared with vol := 0x2A }, fseq := 2 }
      (fun t => (t.cfgWord, t.frame.vol, t.fseq, t.errCode)) = some (0, 0x2A, 2, .ok) := by decide

theorem test_fb_lanes :
    hostRead (hostWrite (frameState .basic [(0, 0x11), (1, 0x22), (2, 0x33), (3, 0x44)]) 0 0b0101 0xAABBCCDD) 0 =
      0x44BB22DD := by decide

theorem test_flen_lanes : (hostWrite State.reset 34 0b0001 0x12345680).flen = 0x0080 := by decide

theorem test_status_w1c :
    (hostWrite { State.reset with errCode := .invalidFrameLength, errAny := true } 33 0b1111 0x2).statusWord = 0x10 := by
  decide

/-! ### Steps -/

theorem test_step_runs_placed_attach :
    (stateOf (step (State.reset.withFetchWord 32 0x01000005))).map State.cfgWord = some 0x00000101 := by decide

theorem test_step_reports_illegal_word :
    (stateOf (step (State.reset.withFetchWord 32 0x00000007))).map State.statusWord = some 0x00000042 := by decide

theorem test_step_holds_write_while_busy :
    (stateOf (step { State.reset with
        pending := some ⟨0, 0b1111⟩, wait := 2, hostQueue := [.write 34 0b1111 128] })).map
      (fun t => (t.ack, t.hostQueue, t.wait)) = some (false, [.write 34 0b1111 128], 1) := by decide

theorem test_step_read_sees_state_before_completion :
    (stateOf (step { State.reset with pending := some ⟨0x01000005, 0b1111⟩, hostQueue := [.read 35] })).map
      (fun t => (t.ack, t.rdata, t.cfgWord)) = some (true, some 0, 0x00000101) := by decide

theorem test_reset_abandons_command :
    (stateOf (step { State.reset with
        pending := some ⟨0x01000005, 0b1111⟩, rstLine := [true], hostQueue := [.write 34 0b1111 128] })).map
      (fun t => (t.busy, t.cmdDone, t.flen, t.hostQueue)) = some (false, false, 0, []) := by decide

/-! ### Witnesses: concrete states and operands that meet the hypotheses of each statement together -/

theorem witness_wellFormed_at_the_limits :
    (Instr.extu 127 63).WellFormed ∧ (Instr.exts 0 0).WellFormed ∧ (Instr.extp24 127).WellFormed ∧
    (Instr.attach 3).WellFormed := by decide

theorem witness_EncodeUndoesDecode : decodeWord 0x003F7F02 = .ok (.exts 127 63) := by decide

theorem witness_AtMostOnePatternSelects :
    (⟨0x00000001, 0xFFC080FF, 0x1⟩ : OpRow) ∈ opRows ∧ OpRow.selects ⟨0x00000001, 0xFFC080FF, 0x1⟩ 0x00100601 = true := by
  decide

/-- The command word `w` due to complete in the coming cycle. -/
def dueState (w : Word) : State := { State.reset with pending := some ⟨w, 0b1111⟩ }

theorem witness_StepRunsDecodedCommand :
    (dueState 0).rstAsserted = false ∧ (dueState 0).pending = some ⟨0, 0b1111⟩ ∧ (dueState 0).wait = 0 ∧
    decodeIssued 0b1111 0 = .ok .nop ∧ decodeTableWord 32 0x00100601 = some (.extu 6 16) := by decide

theorem witness_IllegalCommand_reserved :
    (dueState 7).rstAsserted = false ∧ (dueState 7).pending = some ⟨7, 0b1111⟩ ∧ (dueState 7).wait = 0 ∧
    ∀ i, decodeWord 7 ≠ .ok i := by
  refine ⟨rfl, rfl, rfl, fun i h => ?_⟩
  rw [show decodeWord 7 = .error .reservedOpcode by decide] at h
  cases h

theorem witness_IllegalCommand_partial :
    ({ State.reset with pending := some ⟨0, 0b0000⟩ } : State).pending = some ⟨0, 0b0000⟩ ∧ (0b0000 : BitVec 4) ≠ 0b1111 := by
  decide

theorem witness_AcceptedCommand_waiting :
    NoReset { dueState 0 with wait := 3 } ∧ ({ dueState 0 with wait := 3 } : State).pending = some ⟨0, 0b1111⟩ ∧
    ({ dueState 0 with wait := 3 } : State).wait ≠ 0 ∧ decodeIssued 0b1111 0 = .ok .nop :=
  ⟨fun _ h => (by cases h), rfl, by decide, by decide⟩

theorem witness_CommandWriteRunsToItsEffect :
    NoReset { State.reset with hostQueue := [.write 32 0b1111 4] } ∧
    ({ State.reset with hostQueue := [.write 32 0b1111 4] } : State).pending = none ∧ decodeWord 4 = .ok .decode :=
  ⟨fun _ h => (by cases h), rfl, by decide⟩

theorem witness_Extu_and_Exts_limits :
    (1 ≤ 1 ∧ 1 ≤ 32 ∧ 127 + (1 + 7) / 8 ≤ 128) ∧ (1 ≤ 32 ∧ 32 ≤ 32 ∧ 124 + (32 + 7) / 8 ≤ 128) ∧
    (1 ≤ 9 ∧ 9 ≤ 32 ∧ 128 < 127 + (9 + 7) / 8) := by decide

theorem witness_Extp24_limits : 125 + 3 ≤ 128 ∧ 125 < 126 := by decide

theorem witness_ExtractIllegalWidth : ((0 : Nat) = 0 ∨ 33 ≤ 0) ∧ ((33 : Nat) = 0 ∨ 33 ≤ 33) := by decide

theorem witness_ExtractionReadsOnlyTheBuffer :
    (∀ a, a < 128 → (frameState .basic []).fbByte a = (frameState .extended []).fbByte a) ∧
    (∃ t, exec (.extu 0 8) (frameState .basic []) = .next t) ∧ (∃ t, exec (.exts 0 8) (frameState .extended []) = .next t) ∧
    (∃ t, exec (.extp24 0) (frameState .extended []) = .next t) :=
  ⟨fun _ _ => rfl, ⟨_, rfl⟩, ⟨_, rfl⟩, ⟨_, rfl⟩⟩

theorem witness_DecodeChecks :
    State.reset.attached = false ∧ ({ frameState .basic [] with flen := 127 } : State).attached = true ∧
    ({ frameState .basic [] with flen := 127 } : State).flen ≠ 128 ∧
    ({ frameState .basic [] with flen := 129 } : State).flen ≠ 128 := by decide

theorem witness_Decode_succeeds :
    (frameState .basic frameP1).attached = true ∧ (frameState .basic frameP1).flen = 128 ∧
    (frameState .basic frameP1).variant = .basic ∧ (frameState .extended frameP1).attached = true ∧
    (frameState .extended frameP1).flen = 128 ∧ (frameState .extended frameP1).variant = .extended := by decide

theorem witness_DecodeTestsEachButton_mask (j : Fin 17) :
    ∃ m : Word, m = 1#32 <<< (Config.buttonBit j).val := ⟨_, rfl⟩

theorem witness_DecodeClampsEachStick :
    ∃ (i : Nat) (r : BitVec 16) (raw : Int), (i = 0 ∧ r = (frameState .basic []).frame.stickLX) ∧
      raw = ((frameState .basic []).fbByte (6 + 2 * i)).toNat + 256 * ((frameState .basic []).fbByte (7 + 2 * i)).toInt :=
  ⟨0, _, _, ⟨rfl, rfl⟩, rfl⟩

theorem witness_DecodeIgnoresUnreadBits :
    (∀ a, a < 128 → (frameState .basic []).fbByte a &&& usedBits .basic a =
      (frameState .basic [(15, 0xFF), (37, 0x80), (45, 0xF0), (81, 0x01)]).fbByte a &&& usedBits .basic a) ∧
    (∃ t, exec .decode (frameState .basic []) = .next t) ∧
    (∃ t, exec .decode (frameState .basic [(15, 0xFF), (37, 0x80), (45, 0xF0), (81, 0x01)]) = .next t) :=
  ⟨by decide, ⟨_, rfl⟩, ⟨_, rfl⟩⟩

theorem witness_Attach :
    State.reset.attached = false ∧ 0 ≤ 1 ∧ 1 ≤ 1 ∧ (frameState .basic []).attached = true ∧ 2 ≤ 2 ∧ 2 ≤ 3 := by decide

theorem witness_DetachIsIdempotent : ∃ t, exec .detach (frameState .extended []) = .next t := ⟨_, rfl⟩

theorem witness_OnlyAttachOpens :
    State.reset.attached = false ∧ ∃ t, exec (.attach 1) State.reset = .next t ∧ t.attached = true := ⟨rfl, _, rfl, rfl⟩

theorem witness_NoCommandWritesTheBuffer : ∃ t, completeCommand ⟨4, 0b1111⟩ (frameState .basic []) = .next t := ⟨_, rfl⟩

theorem witness_FailureAndSuccess :
    (∃ t, completeCommand ⟨4, 0b1111⟩ State.reset = .next t ∧ t.errCode ≠ .ok) ∧
    (∃ t, completeCommand ⟨0, 0b1111⟩ State.reset = .next t ∧ t.errCode = .ok) :=
  ⟨⟨_, rfl, by decide⟩, ⟨_, rfl, by decide⟩⟩

theorem witness_OnlyExtractionsWriteXr :
    ∃ t, exec (.extu 0 8) (frameState .basic [(0, 0x01)]) = .next t ∧ t.xr ≠ (frameState .basic [(0, 0x01)]).xr :=
  ⟨_, rfl, by decide⟩

theorem witness_VariantFixed_open :
    ∃ t, step (frameState .extended []) = .next t ∧ (frameState .extended []).attached = true ∧ t.attached = true :=
  ⟨_, rfl, rfl, rfl⟩

theorem witness_VariantFixed_changes :
    (∃ t, step { frameState .extended [] with rstLine := [true] } = .next t ∧ t.variant ≠ .extended) ∧
    (∃ t, step (dueState 0x01000005) = .next t ∧ t.variant ≠ (dueState 0x01000005).variant) ∧
    (∃ t, step { frameState .extended [] with pending := some ⟨6, 0b1111⟩ } = .next t ∧ t.variant ≠ .extended) :=
  ⟨⟨_, rfl, by decide⟩, ⟨_, rfl, by decide⟩, ⟨_, rfl, by decide⟩⟩

theorem witness_ErrAnyIsSticky :
    (∃ t, step { State.reset with errAny := true, hostQueue := [.write 33 0b1111 1] } = .next t) ∧
    (∀ be d q, [HostRequest.write 33 0b1111 1] = .write 33 be d :: q → (be.getLsbD 0 && d.getLsbD 1) = false) := by
  refine ⟨⟨_, rfl⟩, fun be d q h => ?_⟩
  cases h
  decide

theorem witness_ResultsChange_and_FrameCommit :
    ∃ t, step { frameState .basic [] with pending := some ⟨4, 0b1111⟩ } = .next t ∧ t.frameCommit = true ∧
      ({ frameState .basic [] with pending := some ⟨4, 0b1111⟩ } : State).rstAsserted = false :=
  ⟨_, rfl, rfl, rfl⟩

theorem witness_Idleness :
    State.reset.rstAsserted = false ∧ State.reset.pending = none ∧ State.reset.hostQueue = [] ∧
    ({ State.reset with hostQueue := [.idle, .read 33] } : State).hostQueue = .idle :: [.read 33] := by decide

/-- A state that meets the invariant: attached, nothing decoded yet. -/
theorem frameState_basic_inv : Inv (frameState .basic [(127, 0x92)]) where
  fbCanonical := by decide
  fbListed := by decide
  variantClosed := fun h => by cases h
  frameLegal := .inl rfl
  fseqCounts := fun h => absurd rfl h
  basicMotion := fun _ _ => ⟨rfl, rfl, rfl, rfl, rfl, rfl, rfl, rfl, rfl⟩
  tact := by decide
  waitIdle := fun _ => rfl
  doneIdle := fun _ => rfl
  commitDone := fun h => by cases h
  errorShown := fun h => by cases h
  dataAcked := fun h => absurd rfl h

theorem witness_FbWindow_limits :
    Inv (frameState .basic [(127, 0x92)]) ∧ (0 : BitVec 6).toNat < 32 ∧ (31 : BitVec 6).toNat < 32 ∧
    (127 < 4 * (32 : Nat) ∨ 4 * 31 + 3 < 127) ∧ (123 < 4 * 31 ∨ 4 * 31 + 3 < 123) :=
  ⟨frameState_basic_inv, by decide, by decide, by decide, by decide⟩

theorem witness_StatusWrite :
    ((0b0001 : BitVec 4).getLsbD 0 = true ∧ (0x2 : Word).getLsbD 1 = true) ∧ (0b0010 : BitVec 4).getLsbD 0 = false ∧
    (0x1 : Word).getLsbD 1 = false := by decide

theorem witness_FlenWrite_limits : 0 < 8 ∧ 7 < 8 ∧ (8 ≤ 8 ∧ 8 < 16) ∧ (8 ≤ 15 ∧ 15 < 16) := by decide

theorem witness_ReadOnlyAddresses_limits :
    35 ≤ (35 : BitVec 6).toNat ∧ 35 ≤ (63 : BitVec 6).toNat ∧ 60 ≤ (60 : BitVec 6).toNat ∧ 60 ≤ (63 : BitVec 6).toNat := by
  decide

theorem witness_ReadsAreNeverHeld :
    ({ dueState 0 with hostQueue := [.read 33] } : State).rstAsserted = false ∧
    (∃ t, step { dueState 0 with hostQueue := [.read 33] } = .next t) ∧
    (∃ u, step { dueState 0 with hostQueue := [.idle] } = .next u) := ⟨rfl, ⟨_, rfl⟩, ⟨_, rfl⟩⟩

theorem witness_WritesAreHeldWhileBusy :
    (∃ t, step { dueState 0 with hostQueue := [.write 34 0b1111 128] } = .next t) ∧
    ({ dueState 0 with hostQueue := [.write 34 0b1111 128] } : State).busy = true ∧
    (∃ t, step { State.reset with hostQueue := [.write 34 0b1111 128] } = .next t) ∧
    ({ State.reset with hostQueue := [.write 34 0b1111 128] } : State).busy = false ∧
    (31 : BitVec 6) ≠ 32 ∧ (33 : BitVec 6) ≠ 32 :=
  ⟨⟨_, rfl⟩, rfl, ⟨_, rfl⟩, rfl, by decide, by decide⟩

theorem witness_ResultsChange_by_attach :
    ∃ t, step (dueState 0x01000005) = .next t ∧ (dueState 0x01000005).rstAsserted = false ∧ t.cmdDone = true ∧
      t.errCode = .ok ∧ (dueState 0x01000005).attached = false ∧ t.attached = true :=
  ⟨_, rfl, rfl, rfl, rfl, rfl, rfl⟩

theorem witness_CmdWriteOnlyAccepts : (32 : BitVec 6) ≠ 33 ∧ (34 : BitVec 6) ≠ 33 := by decide

theorem witness_Reset_addresses : 32 ≤ (32 : BitVec 6).toNat ∧ 32 ≤ (63 : BitVec 6).toNat := by decide

theorem witness_ResetCycle : ({ dueState 0 with rstLine := [true, false] } : State).rstAsserted = true := by decide

theorem witness_StepKeepsInvariant :
    ∃ t, Inv (frameState .basic [(127, 0x92)]) ∧ step (frameState .basic [(127, 0x92)]) = .next t :=
  ⟨_, frameState_basic_inv, rfl⟩

end Sys2Proof.Tests
end

section
/-! SUPPORT. Keeping the invariant: one lemma per operation of a cycle, from storage up to a step (R22, R30 to R43,
R174). -/

namespace Sys2Proof.Machine

/-! ### The outputs through a cycle of the port -/

/-- A write through the port touches FB, FLEN, ERR_ANY, PENDING and its wait, and nothing else (R66 to R71). -/
theorem hostWrite_eq (s : State) (a : BitVec 6) (be : BitVec 4) (d : Word) :
    hostWrite s a be d =
      { s with
        fb := (hostWrite s a be d).fb, fbWritten := (hostWrite s a be d).fbWritten
        flen := (hostWrite s a be d).flen, errAny := (hostWrite s a be d).errAny
        pending := (hostWrite s a be d).pending, wait := (hostWrite s a be d).wait } := by
  rcases hostWrite_cases s a be d with ⟨_, e⟩ | ⟨_, e⟩ | ⟨_, e⟩ | ⟨_, e⟩ | ⟨_, e⟩ <;> rw [e]
  · rw [writeFbWord_eq]
  · rfl
  · rw [writeStatus_eq]
  · rfl

/-- A cycle of the port touches what a write touches, its queue and its data outputs, and nothing else (R63). -/
theorem portCycle_eq (s : State) :
    portCycle s =
      { s with
        fb := (portCycle s).fb, fbWritten := (portCycle s).fbWritten
        flen := (portCycle s).flen, errAny := (portCycle s).errAny
        pending := (portCycle s).pending, wait := (portCycle s).wait
        hostQueue := (portCycle s).hostQueue, ack := (portCycle s).ack, rdata := (portCycle s).rdata } := by
  rcases portCycle_cases s with ⟨_, e⟩ | ⟨_, _, e⟩ | ⟨_, _, _, e⟩ | ⟨_, _, _, _, _, _, e⟩ | ⟨_, _, _, _, _, _, e⟩ <;>
    rw [e]
  · rfl
  · rfl
  · rw [hostWrite_eq]; rfl

@[simp] theorem portCycle_cmdDone (s : State) : (portCycle s).cmdDone = s.cmdDone := by rw [portCycle_eq]
@[simp] theorem portCycle_frameCommit (s : State) : (portCycle s).frameCommit = s.frameCommit := by rw [portCycle_eq]
@[simp] theorem portCycle_attached (s : State) : (portCycle s).attached = s.attached := by rw [portCycle_eq]
@[simp] theorem portCycle_variant (s : State) : (portCycle s).variant = s.variant := by rw [portCycle_eq]
@[simp] theorem portCycle_fseq (s : State) : (portCycle s).fseq = s.fseq := by rw [portCycle_eq]
@[simp] theorem portCycle_frame (s : State) : (portCycle s).frame = s.frame := by rw [portCycle_eq]
@[simp] theorem portCycle_rstLine (s : State) : (portCycle s).rstLine = s.rstLine := by rw [portCycle_eq]

/-! ### Decoded frames are legal (R30 to R39) -/

/-- A stick axis lies in its clamp range (R31, R127). -/
theorem stickAxis_inRange (b : Nat → Byte) (i : Nat) : StickInRange (stickAxis b i) := by
  rw [StickInRange, toInt_stickAxis]
  exact clamp_mem _ (by decide)

/-- The arithmetic shift by 8 leaves 24 bits of value (R39, R103). -/
theorem packed24_inRange (b : Nat → Byte) (off : Nat) : GyroInRange (packed24 b off) := by
  have hlo := BitVec.le_toInt (packedWord (b off) (b (off + 1)) (b (off + 2)))
  have hhi := BitVec.toInt_lt (x := packedWord (b off) (b (off + 1)) (b (off + 2)))
  rw [GyroInRange, packed24, asr32, BitVec.toInt_sshiftRight, Int.shiftRight_eq_div_pow]
  norm_num at hlo hhi ⊢
  omega

/-- A gyroscope register that was cleared is in range too (R139). -/
theorem zero_gyroInRange : GyroInRange 0 := ⟨by decide, by decide⟩

theorem cleared_motionZero : DecodedFrame.cleared.MotionZero := ⟨rfl, rfl, rfl, rfl, rfl, rfl, rfl, rfl, rfl⟩

theorem cleared_tact : DecodedFrame.cleared.tact = true ↔ DecodedFrame.cleared.pres ≠ 0 := by decide

/-- A BASIC decode leaves the motion registers 0 (R139). -/
theorem decodeFrame_basic_motionZero (pos : Fin 17 → Fin 32) (b : Nat → Byte) :
    (decodeFrame pos b .basic).MotionZero := ⟨rfl, rfl, rfl, rfl, rfl, rfl, rfl, rfl, rfl⟩

/-- The gyroscope registers of either variant are 24-bit values: 0, or packed fields (R39, R137, R139). -/
theorem decodeFrame_gyro_inRange (pos : Fin 17 → Fin 32) (b : Nat → Byte) (v : Variant) :
    GyroInRange (decodeFrame pos b v).gyrX ∧ GyroInRange (decodeFrame pos b v).gyrY ∧
      GyroInRange (decodeFrame pos b v).gyrZ := by
  cases v with
  | basic => exact ⟨zero_gyroInRange, zero_gyroInRange, zero_gyroInRange⟩
  | extended => exact ⟨packed24_inRange b 21, packed24_inRange b 24, packed24_inRange b 27⟩

/-- TSUMX holds the sum unreduced (R130). -/
theorem toNat_decodeFrame_tsumX (pos : Fin 17 → Fin 32) (b : Nat → Byte) (v : Variant) :
    (decodeFrame pos b v).tsumX.toNat = touchSumX b := by
  obtain ⟨-, -, -, -, -, -, -, hx, -⟩ := decodeFrame_shared pos b v
  have := touchSumX_le b
  rw [hx, BitVec.toNat_ofNat]; omega

/-- TSUMY holds the sum unreduced (R130). -/
theorem toNat_decodeFrame_tsumY (pos : Fin 17 → Fin 32) (b : Nat → Byte) (v : Variant) :
    (decodeFrame pos b v).tsumY.toNat = touchSumY b := by
  obtain ⟨-, -, -, -, -, -, -, -, hy, -⟩ := decodeFrame_shared pos b v
  have := touchSumY_le b
  rw [hy, BitVec.toNat_ofNat]; omega

/-- TOUCH_X holds the average unreduced (R131). -/
theorem toNat_decodeFrame_touchX (pos : Fin 17 → Fin 32) (b : Nat → Byte) (v : Variant) :
    (decodeFrame pos b v).touchX.toNat = touchSumX b / 10 := by
  obtain ⟨-, -, -, -, -, -, -, -, -, hx, -⟩ := decodeFrame_shared pos b v
  have := touchSumX_le b
  rw [hx, BitVec.toNat_ofNat]; omega

/-- TOUCH_Y holds the flipped average unreduced (R132). -/
theorem toNat_decodeFrame_touchY (pos : Fin 17 → Fin 32) (b : Nat → Byte) (v : Variant) :
    (decodeFrame pos b v).touchY.toNat = 4096 - touchSumY b / 10 := by
  obtain ⟨-, -, -, -, -, -, -, -, -, -, hy, -⟩ := decodeFrame_shared pos b v
  rw [hy, BitVec.toNat_ofNat]; omega

/-- TACT of a decoded frame says whether PRES is nonzero (R135). -/
theorem decodeFrame_tact (pos : Fin 17 → Fin 32) (b : Nat → Byte) (v : Variant) :
    (decodeFrame pos b v).tact = true ↔ (decodeFrame pos b v).pres ≠ 0 := by
  obtain ⟨-, -, -, -, -, -, -, -, -, -, -, hp, ht⟩ := decodeFrame_shared pos b v
  rw [hp, ht, touchActive, bne_iff_ne]

/-- Every decoded frame is legal, whatever the buffer holds. -/
theorem decodeFrame_legal (b : Nat → Byte) (v : Variant) : (decodeFrame Config.buttonBit b v).Legal := by
  obtain ⟨hm, hb, hlx, hly, hrx, hry, -⟩ := decodeFrame_shared Config.buttonBit b v
  obtain ⟨hgx, hgy, hgz⟩ := decodeFrame_gyro_inRange Config.buttonBit b v
  exact {
    btn := fun j => by rw [hm, hb, getLsbD_buttons]
    stickLX := hlx ▸ stickAxis_inRange b 0
    stickLY := hly ▸ stickAxis_inRange b 1
    stickRX := hrx ▸ stickAxis_inRange b 2
    stickRY := hry ▸ stickAxis_inRange b 3
    tsumX := by rw [toNat_decodeFrame_tsumX]; exact touchSumX_le b
    tsumY := by rw [toNat_decodeFrame_tsumY]; exact touchSumY_le b
    touchX := by rw [toNat_decodeFrame_touchX, toNat_decodeFrame_tsumX]
    touchY := by rw [toNat_decodeFrame_touchY, toNat_decodeFrame_tsumY]
    tact := decodeFrame_tact _ b v
    gyrX := hgx
    gyrY := hgy
    gyrZ := hgz }

/-! ### Each operation of a cycle keeps the invariant -/

/-- Bytes inside FB stay listed only where they were written. -/
theorem Inv.setFbByte {s : State} (h : Inv s) {a : Nat} (ha : a < 128) (v : Byte) : Inv (s.setFbByte a v) :=
  { h with
    fbCanonical := Memory.wf_write h.fbCanonical a v
    fbListed := fun c hc => by
      rw [State.setFbByte_fbWritten, written_or_bit]
      rcases Memory.mem_write hc with rfl | hc
      · simp [ha]
      · simp [h.fbListed c hc] }

theorem Inv.writeLane {s : State} (h : Inv s) {a i : Nat} (ha : a + i < 128) (be : BitVec 4) (d : Word) :
    Inv (s.writeLane a be d i) := by
  unfold State.writeLane
  split
  · exact h.setFbByte ha _
  · exact h

theorem Inv.writeFbWord {s : State} (h : Inv s) {a : Nat} (ha : a + 3 < 128) (be : BitVec 4) (d : Word) :
    Inv (s.writeFbWord a be d) :=
  (((h.writeLane (by omega) be d).writeLane (by omega) be d).writeLane (by omega) be d).writeLane ha be d

/-- Outside the cycle of a completion any port write keeps the invariant: `cmd_done` low lets a command be accepted and
ERR_ANY be cleared. -/
theorem Inv.hostWrite {s : State} (h : Inv s) (hd : s.cmdDone = false) (a : BitVec 6) (be : BitVec 4) (d : Word) :
    Inv (hostWrite s a be d) := by
  rcases hostWrite_cases s a be d with ⟨ha, e⟩ | ⟨_, e⟩ | ⟨_, e⟩ | ⟨_, e⟩ | ⟨_, e⟩ <;> rw [e]
  · exact h.writeFbWord (by omega) be d
  · exact { h with
      waitIdle := fun hp => by cases hp
      doneIdle := fun hc => absurd (hd.symm.trans hc) (by decide) }
  · rw [writeStatus_eq]
    exact { h with errorShown := fun hc => absurd (hd.symm.trans hc) (by decide) }
  · exact { h with }
  · exact h

theorem Inv.acknowledge {s : State} (h : Inv s) (q : List HostRequest) (d : Option Word) : Inv (s.acknowledge q d) :=
  { h with dataAcked := fun _ => rfl }

theorem Inv.portCycle {s : State} (h : Inv s) (hd : s.cmdDone = false) : Inv (portCycle s) := by
  rcases portCycle_cases s with ⟨_, e⟩ | ⟨q, _, e⟩ | ⟨a, q, _, e⟩ | ⟨_, _, _, _, _, _, e⟩ | ⟨a, be, d, q, _, _, e⟩ <;>
    rw [e]
  · exact h
  · exact { h with }
  · exact h.acknowledge q _
  · exact h
  · exact (h.hostWrite hd a be d).acknowledge q _

theorem Inv.beginCycle {s : State} (h : Inv s) : Inv s.beginCycle :=
  { h with
    doneIdle := fun hc => by cases hc
    commitDone := fun hc => by cases hc
    errorShown := fun hc => by cases hc
    dataAcked := fun hr => absurd rfl hr }

theorem Inv.countDown {s : State} (h : Inv s) : Inv s.countDown :=
  { h with waitIdle := fun hp => by rw [State.countDown_wait, h.waitIdle hp] }

theorem Inv.setXr {s : State} (h : Inv s) (x : Word) : Inv (s.setXr x) := { h with }

/-- Any completion keeps the invariant: it ends the wait, and a nonzero code sets ERR_ANY. -/
theorem Inv.finish {s : State} (h : Inv s) (c : ResultCode) : Inv (s.finish c) :=
  { h with
    waitIdle := fun _ => rfl
    doneIdle := fun _ => rfl
    commitDone := fun hc => by cases hc
    errorShown := fun _ (hc : c ≠ .ok) => by simp [hc] }

/-- Closing the lifetime puts VARIANT back to 0 and leaves the results (R162). -/
theorem Inv.closeLifetime {s : State} (h : Inv s) (hf : s.frameCommit = false) : Inv (s.setLifetime false .basic) :=
  { h with
    variantClosed := fun _ => rfl
    basicMotion := fun ha => by cases ha
    commitDone := fun hc => absurd (hf.symm.trans hc) (by decide) }

/-- Opening a lifetime clears the result register file, so nothing of an earlier lifetime stays (R161). -/
theorem Inv.openLifetime {s : State} (h : Inv s) (hf : s.frameCommit = false) (v : Variant) :
    Inv ((s.setLifetime true v).setFrame .cleared 0) :=
  { h with
    variantClosed := fun ha => by cases ha
    frameLegal := .inl rfl
    fseqCounts := fun hn => absurd rfl hn
    basicMotion := fun _ _ => cleared_motionZero
    tact := cleared_tact
    commitDone := fun hc => absurd (hf.symm.trans hc) (by decide) }

/-- A commit puts a legal frame in place, with no motion in a BASIC lifetime (R139, R141). -/
theorem Inv.commitFrame {s : State} (h : Inv s) (ha : s.attached = true) (b : Nat → Byte) (n : BitVec 16) :
    Inv (s.setFrame (decodeFrame Config.buttonBit b s.variant) n).commitFrame :=
  { h with
    frameLegal := .inr (decodeFrame_legal b _)
    fseqCounts := fun _ => decodeFrame_legal b _
    basicMotion := fun _ (hv : s.variant = .basic) => by
      simpa [hv] using decodeFrame_basic_motionZero Config.buttonBit b
    tact := decodeFrame_tact _ b _
    waitIdle := fun _ => rfl
    doneIdle := fun _ => rfl
    commitDone := fun _ => ⟨rfl, rfl, ha, decodeFrame_legal b _⟩
    errorShown := fun _ hc => absurd rfl hc }

/-- Every command keeps the invariant, in a cycle whose `frame_commit` is still low. -/
theorem Inv.exec {s t : State} (h : Inv s) (hf : s.frameCommit = false) {i : Instr} (e : exec i s = .next t) :
    Inv t := by
  rcases exec_cases i s with ⟨c, -, e'⟩ | ⟨x, _, _, -, e'⟩ | ⟨-, ha, -, e'⟩ | ⟨_, -, -, e'⟩ | ⟨-, e'⟩ | ⟨-, e'⟩ <;>
    cases e'.symm.trans e
  · exact h.finish c
  · exact (h.setXr x).finish .ok
  · exact h.commitFrame ha _ _
  · exact (h.openLifetime hf _).finish .ok
  · exact (h.closeLifetime hf).finish .ok
  · exact h.finish .ok

theorem Inv.completeCommand {s t : State} (h : Inv s) (hf : s.frameCommit = false) {c : Command}
    (e : completeCommand c s = .next t) : Inv t := by
  rcases completeCommand_cases c s with ⟨i, -, e'⟩ | ⟨-, e'⟩
  · exact h.exec hf (e'.symm.trans e)
  · cases e'.symm.trans e
    exact h.finish .illegalOp

/-- A reset cycle leaves the reset values behind, which meet the invariant (R190). -/
theorem inv_resetCycle (s : State) : Inv s.resetCycle where
  fbCanonical := rfl
  fbListed := fun c hc => by cases hc
  variantClosed := fun _ => rfl
  frameLegal := .inl rfl
  fseqCounts := fun hn => absurd rfl hn
  basicMotion := fun ha => by cases ha
  tact := cleared_tact
  waitIdle := fun _ => rfl
  doneIdle := fun _ => rfl
  commitDone := fun hc => by cases hc
  errorShown := fun hc => by cases hc
  dataAcked := fun hr => absurd rfl hr

/-- Settles O60: each part of a cycle keeps the invariant, so the whole of it does. -/
theorem stepKeepsInvariant : Obligations.StepKeepsInvariant := by
  intro s t h e
  have hport : Inv (portCycle s.beginCycle) := h.beginCycle.portCycle rfl
  rcases step_cases s with ⟨-, e'⟩ | ⟨-, -, e'⟩ | ⟨-, -, -, e'⟩ | ⟨-, c, -, -, e'⟩
  · cases e'.symm.trans e
    exact inv_resetCycle s
  · cases e'.symm.trans e
    exact hport
  · cases e'.symm.trans e
    exact hport.countDown
  · exact hport.completeCommand (by simp) (e'.symm.trans e)

end Sys2Proof.Machine
end

section
/-! SUPPORT. Registers as a host reads them (R24 to R40, R66), and what a CMD write leaves of them (R41, R68). -/

namespace Sys2Proof.Machine

/-- The value of STATUS, field by field (R25). -/
theorem toNat_statusWord (s : State) :
    s.statusWord.toNat = s.busy.toNat + 2 * s.errAny.toNat + 16 * s.errCode.bits.toNat := by
  simp only [State.statusWord, toNat_append_add, BitVec.toNat_ofBool, BitVec.toNat_ofNat]
  omega

/-- The value of CFG, field by field (R24). -/
theorem toNat_cfgWord (s : State) : s.cfgWord.toNat = s.variant.bits.toNat + 256 * s.attached.toNat := by
  simp only [State.cfgWord, toNat_append_add, BitVec.toNat_ofBool, BitVec.toNat_ofNat]
  omega

/-- Settles O52: each field of the two words has its own value at its own place. -/
theorem statusAndCfgReadTheirFields : Obligations.StatusAndCfgReadTheirFields := by
  intro s
  constructor
  · have hbusy : s.busy.toNat = if s.pending = none then 0 else 1 := by
      rw [State.busy_eq]; cases s.pending <;> rfl
    have herr : 2 * s.errAny.toNat = if s.errAny = true then 2 else 0 := by cases s.errAny <;> rfl
    rw [hostRead_33, toNat_statusWord, hbusy, herr]
    cases s.errCode <;> rfl
  · have hvar : s.variant.bits.toNat = if s.variant = .extended then 1 else 0 := by cases s.variant <;> rfl
    have hatt : 256 * s.attached.toNat = if s.attached = true then 256 else 0 := by cases s.attached <;> rfl
    rw [hostRead_35, toNat_cfgWord, hvar, hatt]

/-- Settles O53: a zero-extended read keeps its register's unsigned value and a sign-extended one its signed value. -/
theorem resultRegistersReadExtended : Obligations.ResultRegistersReadExtended := by
  intro s
  have zext : ∀ {n : Nat} (x : BitVec n), n ≤ 32 → (x.setWidth 32).toNat = x.toNat :=
    fun _ h => BitVec.toNat_setWidth_of_le h
  have sext : ∀ x : BitVec 16, (x.signExtend 32).toInt = x.toInt :=
    fun _ => BitVec.toInt_signExtend_of_le (by decide)
  have tact : ((BitVec.ofBool s.frame.tact).setWidth 32).toNat = if s.frame.tact = true then 1 else 0 := by
    cases s.frame.tact <;> rfl
  rw [hostRead_36, hostRead_37, hostRead_38, hostRead_39, hostRead_40, hostRead_41, hostRead_42, hostRead_43,
    hostRead_44, hostRead_45, hostRead_46, hostRead_47, hostRead_48, hostRead_49, hostRead_50, hostRead_51,
    hostRead_52, hostRead_53, hostRead_54, hostRead_55, hostRead_56, hostRead_57, hostRead_58, hostRead_59]
  exact ⟨rfl, zext s.fseq (by decide), zext s.frame.tsumX (by decide), zext s.frame.tsumY (by decide), rfl,
    zext s.frame.btn (by decide), sext _, sext _, sext _, sext _, zext s.frame.vol (by decide),
    zext s.frame.touchX (by decide), zext s.frame.touchY (by decide), zext s.frame.pres (by decide), tact,
    sext _, sext _, sext _, rfl, rfl, rfl, sext _, sext _, sext _⟩

/-- A cleared result register file reads 0 at every address of it (R161, R190). -/
theorem hostRead_of_frame_cleared {t : State} (hf : t.frame = .cleared) {a : BitVec 6} (h : 38 ≤ a.toNat)
    (h' : a.toNat ≤ 59) : hostRead t a = 0 := by
  obtain ⟨k, rfl, hk, hk'⟩ : ∃ k, a = BitVec.ofNat 6 k ∧ 38 ≤ k ∧ k ≤ 59 := ⟨a.toNat, by simp, h, h'⟩
  rw [show t = { t with frame := .cleared } by rw [← hf]]
  clear h h'
  interval_cases k <;> rfl

/-- A read depends on the bytes of FB and the registers of the map; STATUS is read at its own address alone (R66). -/
theorem hostRead_congr {s t : State} {a : BitVec 6} (hbytes : ∀ k, t.fbByte k = s.fbByte k)
    (hstatus : a = 33 → t.statusWord = s.statusWord) (hflen : t.flen = s.flen) (hcfg : t.cfgWord = s.cfgWord)
    (hxr : t.xr = s.xr) (hfseq : t.fseq = s.fseq) (hframe : t.frame = s.frame) : hostRead t a = hostRead s a := by
  have h33 : byteAddr a = 0x84 → a = 33 := fun h => BitVec.eq_of_toNat_eq (by unfold byteAddr at h; simp; omega)
  unfold hostRead
  simp only [State.fbWord, hbytes, hflen, hcfg, hxr, hfseq, hframe]
  split
  · rfl
  · split
    · exact hstatus (h33 ‹_›)
    all_goals rfl

/-- Settles O56: the acceptance sets PENDING and the wait, and of these a host can read BUSY alone. -/
theorem cmdWriteOnlyAccepts : Obligations.CmdWriteOnlyAccepts := by
  intro s be d
  refine ⟨⟨_, rfl⟩, rfl, fun a ha => ?_⟩
  exact hostRead_congr (fun _ => rfl) (fun h => absurd h ha) rfl rfl rfl rfl rfl

end Sys2Proof.Machine
end

section
/-! SUPPORT. What a completion reports and what it leaves alone (R22, R23, R41, R171). -/

namespace Sys2Proof.Machine

/-! ### Surroundings: what no staged write and no completion touches -/

theorem KeepsSurroundings.refl (s : State) : KeepsSurroundings s s :=
  ⟨fun _ => rfl, rfl, rfl, rfl, rfl, rfl, rfl, rfl, rfl⟩

theorem KeepsSurroundings.setXr {s t : State} (h : KeepsSurroundings s t) (x : Word) :
    KeepsSurroundings s (t.setXr x) := { h with }

theorem KeepsSurroundings.setLifetime {s t : State} (h : KeepsSurroundings s t) (a : Bool) (v : Variant) :
    KeepsSurroundings s (t.setLifetime a v) := { h with }

theorem KeepsSurroundings.setFrame {s t : State} (h : KeepsSurroundings s t) (f : DecodedFrame) (n : BitVec 16) :
    KeepsSurroundings s (t.setFrame f n) := { h with }

theorem KeepsSurroundings.finish {s t : State} (h : KeepsSurroundings s t) (c : ResultCode) :
    KeepsSurroundings s (t.finish c) := { h with }

theorem KeepsSurroundings.commitFrame {s t : State} (h : KeepsSurroundings s t) :
    KeepsSurroundings s t.commitFrame := { h with }

/-- No command touches the surroundings (R22, R23, R41). -/
theorem exec_keepsSurroundings {s t : State} {i : Instr} (e : exec i s = .next t) : KeepsSurroundings s t := by
  have h := KeepsSurroundings.refl s
  rcases exec_cases i s with ⟨c, -, e'⟩ | ⟨x, _, _, -, e'⟩ | ⟨-, -, -, e'⟩ | ⟨_, -, -, e'⟩ | ⟨-, e'⟩ | ⟨-, e'⟩ <;>
    cases e'.symm.trans e
  · exact h.finish c
  · exact (h.setXr x).finish .ok
  · exact (h.setFrame _ _).commitFrame
  · exact ((h.setLifetime _ _).setFrame _ _).finish .ok
  · exact (h.setLifetime _ _).finish .ok
  · exact h.finish .ok

/-- Settles O39: legal commands by `exec_keepsSurroundings`, an illegal one because it only reports. -/
theorem noCommandWritesTheBuffer : Obligations.NoCommandWritesTheBuffer := by
  intro s t c e
  rcases completeCommand_cases c s with ⟨i, -, e'⟩ | ⟨-, e'⟩
  · exact exec_keepsSurroundings (e'.symm.trans e)
  · cases e'.symm.trans e
    exact (KeepsSurroundings.refl s).finish .illegalOp

/-! ### Reports -/

/-- An error writes STATUS and pulses `cmd_done`, and that is all (R171). -/
theorem failed_finish (s : State) {c : ResultCode} (hc : c ≠ .ok) : Failed c s (s.finish c) where
  errCode := rfl
  errAny := by simp [hc]
  pending := rfl
  wait := rfl
  cmdDone := rfl
  frameCommit := rfl
  xr := rfl
  frame := ⟨rfl, rfl⟩
  lifetime := ⟨rfl, rfl⟩
  surroundings := (KeepsSurroundings.refl s).finish c

/-- Completing with code 0 over staged writes that left ERR_ANY alone is a success (R171). -/
theorem succeeded_finish {s staged : State} (h : staged.errAny = s.errAny) : Succeeded s (staged.finish .ok) :=
  ⟨rfl, by simp [h], rfl, rfl, rfl⟩

/-- So is a commit (R141). -/
theorem succeeded_commitFrame {s staged : State} (h : staged.errAny = s.errAny) : Succeeded s staged.commitFrame :=
  ⟨rfl, by simp [h], rfl, rfl, rfl⟩

/-! ### DECODE, ATTACH and DETACH where their checks are decided -/

/-- With no lifetime open DECODE only reports NOT_ATTACHED (R121). -/
theorem exec_decode_of_detached {s : State} (ha : s.attached = false) :
    exec .decode s = .next (s.finish .notAttached) := by
  rcases execDecode_cases s with ⟨-, e⟩ | ⟨h, -⟩ | ⟨h, -⟩
  · exact e
  · cases ha.symm.trans h
  · cases ha.symm.trans h

/-- In an open lifetime with FLEN 128 DECODE commits the decoded frame (R141). -/
theorem exec_decode_of_ready {s : State} (ha : s.attached = true) (hl : s.flen = 128) :
    exec .decode s =
      .next (s.setFrame (decodeFrame Config.buttonBit s.fbByte s.variant) (s.fseq + 1)).commitFrame := by
  rcases execDecode_cases s with ⟨h, -⟩ | ⟨-, h, -⟩ | ⟨-, -, e⟩
  · cases ha.symm.trans h
  · exact absurd hl h
  · exact e

/-- With no lifetime open ATTACH 0 and ATTACH 1 open one over cleared results (R161). -/
theorem exec_attach_of_detached {s : State} {v : Nat} (ha : s.attached = false) (hv : v ≤ 1) :
    exec (.attach v) s =
      .next (((s.setLifetime true (if v = 1 then .extended else .basic)).setFrame .cleared 0).finish .ok) := by
  rcases execAttach_cases v s with ⟨h, -⟩ | ⟨-, h, -⟩ | ⟨-, -, e⟩
  · cases ha.symm.trans h
  · omega
  · exact e

theorem exec_detach (s : State) : exec .detach s = .next ((s.setLifetime false .basic).finish .ok) := rfl

/-- Settles O30. -/
theorem decodeCommitsOnce : Obligations.DecodeCommitsOnce := by
  intro s ha hl
  refine ⟨_, exec_decode_of_ready ha hl, ?_, rfl, succeeded_commitFrame rfl, rfl, ⟨rfl, rfl⟩,
    exec_keepsSurroundings (exec_decode_of_ready ha hl)⟩
  simp [BitVec.toNat_add]

/-- Settles O34. -/
theorem attachOpensLifetime : Obligations.AttachOpensLifetime := by
  intro s v ha hv
  exact ⟨_, exec_attach_of_detached ha hv, rfl, rfl, rfl, rfl, fun _ => hostRead_of_frame_cleared rfl,
    succeeded_finish rfl, rfl, rfl, exec_keepsSurroundings (exec_attach_of_detached ha hv)⟩

/-- Settles O40: of the six outcomes of a command, one stages XR. -/
theorem onlyExtractionsWriteXr : Obligations.OnlyExtractionsWriteXr := by
  intro s t i e hx
  rcases exec_cases i s with ⟨_, -, e'⟩ | ⟨_, off, w, hi, e'⟩ | ⟨-, -, -, e'⟩ | ⟨_, -, -, e'⟩ | ⟨-, e'⟩ | ⟨-, e'⟩ <;>
    cases e'.symm.trans e
  · exact absurd rfl hx
  · exact ⟨rfl, off, w, hi⟩
  · exact absurd rfl hx
  · exact absurd rfl hx
  · exact absurd rfl hx
  · exact absurd rfl hx

/-- An ATTACH that ends in an open lifetime where none was open had code 0 or 1 and ended with OK (R161). -/
theorem legal_code_of_attach_opens {s t : State} {v : Nat} (ha : s.attached = false) (e : exec (.attach v) s = .next t)
    (ht : t.attached = true) : t.errCode = .ok ∧ v ≤ 1 := by
  rcases execAttach_cases v s with ⟨h, -⟩ | ⟨-, -, e'⟩ | ⟨-, hv, e'⟩
  · cases ha.symm.trans h
  · cases e'.symm.trans e
    cases ha.symm.trans ht
  · cases e'.symm.trans e
    exact ⟨rfl, hv⟩

/-- Settles O37. -/
theorem detachIsIdempotentAndStopsDecode : Obligations.DetachIsIdempotentAndStopsDecode := by
  constructor
  · intro s t e
    cases (exec_detach s).symm.trans e
    constructor
    · simp [exec_detach, State.setLifetime, State.finish]
    · exact ⟨_, exec_decode_of_detached rfl, failed_finish _ (by decide)⟩
  · intro s t i ha e ht
    rcases exec_cases i s with
      ⟨_, -, e'⟩ | ⟨_, _, _, -, e'⟩ | ⟨-, h, -⟩ | ⟨v, rfl, -⟩ | ⟨-, e'⟩ | ⟨-, e'⟩
    · cases e'.symm.trans e
      cases ha.symm.trans ht
    · cases e'.symm.trans e
      cases ha.symm.trans ht
    · cases ha.symm.trans h
    · obtain ⟨hok, hv⟩ := legal_code_of_attach_opens ha e ht
      exact ⟨hok, by interval_cases v <;> simp⟩
    · cases e'.symm.trans e
      cases ht
    · cases e'.symm.trans e
      cases ha.symm.trans ht

/-! ### The touch sums (R129, R130) -/

/-- A 12-bit touch coordinate is its low byte and the low nibble of the next one (R129). -/
theorem touch12_eq (b : Nat → Byte) (a : Nat) : touch12 b a = (b a).toNat + 256 * ((b (a + 1)).toNat % 16) := by
  rw [touch12, toNat_append_add, BitVec.extractLsb'_toNat, Nat.shiftRight_zero]
  omega

/-- The sum of x, subsample by subsample (R130). -/
theorem touchSumX_eq_sum (b : Nat → Byte) :
    touchSumX b = ∑ i ∈ Finset.range 10, ((b (36 + 4 * i)).toNat + 256 * ((b (37 + 4 * i)).toNat % 16)) := by
  rw [touchSumX, sumLanes_eq_sum]
  refine Finset.sum_congr rfl fun i _ => ?_
  rw [touchSampleX, touch12_eq, show 36 + 4 * i + 1 = 37 + 4 * i by omega]

/-- The sum of y, subsample by subsample (R130). -/
theorem touchSumY_eq_sum (b : Nat → Byte) :
    touchSumY b = ∑ i ∈ Finset.range 10, ((b (38 + 4 * i)).toNat + 256 * ((b (39 + 4 * i)).toNat % 16)) := by
  rw [touchSumY, sumLanes_eq_sum]
  refine Finset.sum_congr rfl fun i _ => ?_
  rw [touchSampleY, touch12_eq, show 36 + 4 * i + 2 = 38 + 4 * i by omega, show 38 + 4 * i + 1 = 39 + 4 * i by omega]

/-- Settles O24: the accumulators hold the lane sums unreduced. -/
theorem decodeSumsTouchSubsamples : Obligations.DecodeSumsTouchSubsamples := by
  intro s ha hl
  refine ⟨_, exec_decode_of_ready ha hl, ?_⟩
  rw [State.commitFrame_frame, State.setFrame_frame, toNat_decodeFrame_tsumX, toNat_decodeFrame_tsumY]
  exact ⟨touchSumX_eq_sum _, touchSumY_eq_sum _, touchSumX_le _, touchSumY_le _⟩

end Sys2Proof.Machine
end

section
/-! SUPPORT. The cycles of a command: waiting, the completion, and the run from the acceptance to it (R41, R73, R74). -/

namespace Sys2Proof.Machine

/-! ### States that agree in every register -/

theorem SameRegisters.refl (s : State) : SameRegisters s s :=
  ⟨rfl, rfl, rfl, rfl, rfl, rfl, rfl, rfl, rfl, rfl, rfl, rfl, rfl⟩

theorem SameRegisters.trans {s t u : State} (h : SameRegisters s t) (h' : SameRegisters t u) : SameRegisters s u :=
  ⟨h'.fb.trans h.fb, h'.fbWritten.trans h.fbWritten, h'.resets.trans h.resets, h'.flen.trans h.flen,
    h'.attached.trans h.attached, h'.variant.trans h.variant, h'.errAny.trans h.errAny, h'.errCode.trans h.errCode,
    h'.xr.trans h.xr, h'.fseq.trans h.fseq, h'.frame.trans h.frame, h'.pending.trans h.pending, h'.wait.trans h.wait⟩

/-- Only the port and the pulses tell two such states apart. -/
theorem SameRegisters.eq {s t : State} (h : SameRegisters s t) :
    t = { s with
      rstLine := t.rstLine, hostQueue := t.hostQueue, ack := t.ack, rdata := t.rdata
      cmdDone := t.cmdDone, frameCommit := t.frameCommit } := by
  cases s; cases t; cases h; simp_all

theorem SameRegisters.fbByte {s t : State} (h : SameRegisters s t) (a : Nat) : t.fbByte a = s.fbByte a := by
  rw [h.eq]; rfl

/-- A host reads the same everywhere. -/
theorem SameRegisters.hostRead {s t : State} (h : SameRegisters s t) (a : BitVec 6) : hostRead t a = hostRead s a := by
  rw [h.eq]
  exact hostRead_congr (fun _ => rfl) (fun _ => rfl) rfl rfl rfl rfl rfl

/-- How long a command has waited is no concern of its own. -/
theorem SameRegisters.setWait {s t : State} (h : SameRegisters s t) (n : Nat) :
    SameRegisters { s with wait := n } { t with wait := n } := { h with wait := rfl }

/-! ### The port while BUSY -/

/-- While BUSY = 1 the port changes no register: reads have no effect and writes are held (R72, R74). -/
theorem portCycle_sameRegisters_of_busy {s : State} (h : s.busy = true) : SameRegisters s (portCycle s) := by
  rcases portCycle_cases s with ⟨-, e⟩ | ⟨_, -, e⟩ | ⟨_, _, -, e⟩ | ⟨_, _, _, _, -, -, e⟩ | ⟨_, _, _, _, -, hb, -⟩
  · rw [e]; exact .refl s
  · rw [e]; exact { SameRegisters.refl s with }
  · rw [e]; exact { SameRegisters.refl s with }
  · rw [e]; exact .refl s
  · cases hb.symm.trans h

/-- So with a command pending, a cycle's start and its port leave every register. -/
theorem cyclePort_sameRegisters {s : State} {c : Command} (hp : s.pending = some c) :
    SameRegisters s (portCycle s.beginCycle) :=
  have hb : s.beginCycle.busy = true := by rw [State.busy_eq, State.beginCycle_pending, hp]; rfl
  { SameRegisters.refl s with : SameRegisters s s.beginCycle }.trans (portCycle_sameRegisters_of_busy hb)

/-- A cycle without reset that completes nothing takes one cycle off the wait. -/
theorem step_of_waiting {s : State} {c : Command} (hr : s.rstAsserted = false) (hp : s.pending = some c)
    (hw : s.wait ≠ 0) : step s = .next (portCycle s.beginCycle).countDown := by
  have h := cyclePort_sameRegisters hp
  rcases step_cases s with ⟨hr', -⟩ | ⟨-, hn, -⟩ | ⟨-, -, -, e⟩ | ⟨-, _, -, hw', -⟩
  · cases hr.symm.trans hr'
  · cases (hp.symm.trans h.pending.symm).trans hn
  · exact e
  · exact absurd (h.wait.symm.trans hw') hw

/-- A cycle without reset that finds the wait over completes the command. -/
theorem step_of_due {s : State} {c : Command} (hr : s.rstAsserted = false) (hp : s.pending = some c)
    (hw : s.wait = 0) : step s = completeCommand c (portCycle s.beginCycle) := by
  have h := cyclePort_sameRegisters hp
  rcases step_cases s with ⟨hr', -⟩ | ⟨-, hn, -⟩ | ⟨-, -, hw', -⟩ | ⟨-, _, hp', -, e⟩
  · cases hr.symm.trans hr'
  · cases (hp.symm.trans h.pending.symm).trans hn
  · exact absurd (h.wait.trans hw) hw'
  · cases (hp.symm.trans h.pending.symm).trans hp'
    exact e

theorem completeCommand_of_legal {c : Command} {i : Instr} (h : decodeIssued c.be c.word = .ok i) (s : State) :
    completeCommand c s = exec i s := by
  rw [completeCommand, h]

/-! ### A placed word (log 12) -/

theorem rstAsserted_placeCommand (s : State) (w : Word) : (s.placeCommand w).rstAsserted = false := by
  show (deassert s.rstLine).headD false = false
  rcases s.rstLine with _ | ⟨_ | _, _⟩ <;> rfl

/-- What the table decoder reads is what the whole-word write of the table word issues (R68, R84). -/
theorem decodeIssued_of_decodeTableWord {n w : Nat} {i : Instr} (h : decodeTableWord n w = some i) :
    decodeIssued 0b1111 (tableWord n w) = .ok i := by
  rw [decodeIssued, if_pos rfl]
  rw [decodeTableWord] at h
  cases hd : decodeWord (tableWord n w) with
  | ok j => rw [hd] at h; cases h; rfl
  | error _ => rw [hd] at h; cases h

/-- Settles O6: both clauses are `step_of_due`, for a legal command. -/
theorem stepRunsDecodedCommand : Obligations.StepRunsDecodedCommand := by
  constructor
  · intro s c i hr hp hw hi
    rw [step_of_due hr hp hw, completeCommand_of_legal hi]
  · intro s n w i h
    have hr : (s.withFetchWord n w).rstAsserted = false := rstAsserted_placeCommand s _
    have hp : (s.withFetchWord n w).pending = some ⟨tableWord n w, 0b1111⟩ := rfl
    rw [step_of_due hr hp rfl, completeCommand_of_legal (decodeIssued_of_decodeTableWord h)]

/-- Settles O9. -/
theorem nothingChangesBeforeCompletion : Obligations.NothingChangesBeforeCompletion := by
  intro s c hr hp hw
  have h := cyclePort_sameRegisters hp
  refine ⟨_, step_of_waiting hr hp hw, fun a => ?_, h.pending.trans hp, ?_, by simp, by simp⟩
  · calc hostRead (portCycle s.beginCycle).countDown a
        = hostRead (portCycle s.beginCycle) a := hostRead_congr (fun _ => rfl) (fun _ => rfl) rfl rfl rfl rfl rfl
      _ = hostRead s a := h.hostRead a
  · rw [State.countDown_wait, h.wait]; omega

/-! ### The run to the completion -/

theorem NoReset.rstAsserted {s : State} (h : NoReset s) : s.rstAsserted = false := by
  rw [NoReset] at h
  rw [State.rstAsserted]
  cases hl : s.rstLine with
  | nil => rfl
  | cons b l => exact h b (by simp [hl])

theorem NoReset.of_tail {s t : State} (h : NoReset s) (ht : t.rstLine = s.rstLine.tail) : NoReset t :=
  fun b hb => h b (List.mem_of_mem_tail (ht ▸ hb))

/-- A run of one step is that step. -/
theorem run_one (M : Host.Core) (s : M.State) : M.run 1 s = M.step s := by
  simp only [Host.Core.run]
  cases M.step s <;> rfl

/-- The run over the rest of a command's `LAT` is its completion, on a state with the registers of the first one: by
induction on the cycles still to wait. -/
theorem run_eq_completeCommand {c : Command} {n : Nat} :
    ∀ {s : State}, NoReset s → s.pending = some c → s.wait = n →
      ∃ u : State, SameRegisters { s with wait := 0 } u ∧
        Host.Core.run Sys2Proof.core (n + 1) s = completeCommand c u := by
  induction n with
  | zero =>
    intro s hr hp hw
    have h : SameRegisters { s with wait := 0 } (portCycle s.beginCycle) :=
      { cyclePort_sameRegisters hp with wait := (cyclePort_sameRegisters hp).wait.trans hw }
    exact ⟨_, h, (run_one Sys2Proof.core s).trans (step_of_due hr.rstAsserted hp hw)⟩
  | succ n ih =>
    intro s hr hp hw
    have h := cyclePort_sameRegisters hp
    have hstep := step_of_waiting hr.rstAsserted hp (by omega)
    obtain ⟨u, hu, e⟩ := ih (s := (portCycle s.beginCycle).countDown) (hr.of_tail (by simp)) (h.pending.trans hp)
      (by rw [State.countDown_wait, h.wait]; omega)
    exact ⟨u, (h.setWait 0).trans hu, (run_of_step Sys2Proof.core (n + 1) s _ hstep).trans e⟩

/-- Every completion ends: `cmd_done` is high and nothing is pending any more (R41, R171). -/
theorem completeCommand_ends (c : Command) (s : State) :
    ∃ t, completeCommand c s = .next t ∧ t.cmdDone = true ∧ t.pending = none := by
  rcases completeCommand_cases c s with ⟨i, -, e⟩ | ⟨-, e⟩
  · rcases exec_cases i s with ⟨_, -, e'⟩ | ⟨_, _, _, -, e'⟩ | ⟨-, -, -, e'⟩ | ⟨_, -, -, e'⟩ | ⟨-, e'⟩ | ⟨-, e'⟩ <;>
      exact ⟨_, e.trans e', rfl, rfl⟩
  · exact ⟨_, e, rfl, rfl⟩

/-- Settles O8. -/
theorem acceptedCommandCompletes : Obligations.AcceptedCommandCompletes := by
  intro s c hr hp
  obtain ⟨u, -, e⟩ := run_eq_completeCommand hr hp rfl
  obtain ⟨t, e', hd, hn⟩ := completeCommand_ends c u
  exact ⟨t, e.trans e', hd, by rw [State.busy_eq, hn]; rfl⟩

/-- A meaning does not read the wait, and every completion sets it to 0. -/
theorem exec_setWait (i : Instr) (s : State) (n : Nat) : exec i { s with wait := n } = exec i s := by
  cases i <;> rfl

theorem SameRegisters.setXr {s t : State} (h : SameRegisters s t) (x : Word) :
    SameRegisters (s.setXr x) (t.setXr x) := { h with xr := rfl }

theorem SameRegisters.setLifetime {s t : State} (h : SameRegisters s t) (a : Bool) (v : Variant) :
    SameRegisters (s.setLifetime a v) (t.setLifetime a v) := { h with attached := rfl, variant := rfl }

theorem SameRegisters.setFrame {s t : State} (h : SameRegisters s t) (f : DecodedFrame) (n : BitVec 16) :
    SameRegisters (s.setFrame f n) (t.setFrame f n) := { h with frame := rfl, fseq := rfl }

theorem SameRegisters.finish {s t : State} (h : SameRegisters s t) (c : ResultCode) :
    SameRegisters (s.finish c) (t.finish c) :=
  { h with errCode := rfl, errAny := by simp [h.errAny], pending := rfl, wait := rfl }

theorem SameRegisters.commitFrame {s t : State} (h : SameRegisters s t) :
    SameRegisters s.commitFrame t.commitFrame := { h.finish .ok with }

/-- A meaning reads registers alone: on two states that agree in every register it ends with the same registers and the
same `frame_commit`. -/
theorem exec_sameRegisters {s s' t : State} (h : SameRegisters s s') {i : Instr} (e : exec i s = .next t) :
    ∃ t', exec i s' = .next t' ∧ SameRegisters t t' ∧ t'.frameCommit = t.frameCommit := by
  have hbytes : s'.fbByte = s.fbByte := funext h.fbByte
  revert e
  cases i with
  | nop => rintro ⟨⟩; exact ⟨_, rfl, h.finish .ok, rfl⟩
  | extu off w =>
    simp only [exec, execExtu, hbytes]
    cases fieldAt s.fbByte off w with
    | error c => rintro ⟨⟩; exact ⟨_, rfl, h.finish c, rfl⟩
    | ok v => rintro ⟨⟩; exact ⟨_, rfl, (h.setXr _).finish .ok, rfl⟩
  | exts off w =>
    simp only [exec, execExts, hbytes]
    cases fieldAt s.fbByte off w with
    | error c => rintro ⟨⟩; exact ⟨_, rfl, h.finish c, rfl⟩
    | ok v => rintro ⟨⟩; exact ⟨_, rfl, (h.setXr _).finish .ok, rfl⟩
  | extp24 off =>
    simp only [exec, execExtp24, hbytes]
    cases packedAt s.fbByte off with
    | error c => rintro ⟨⟩; exact ⟨_, rfl, h.finish c, rfl⟩
    | ok v => rintro ⟨⟩; exact ⟨_, rfl, (h.setXr v).finish .ok, rfl⟩
  | decode =>
    simp only [exec, execDecode, hbytes, h.attached, h.flen, h.variant, h.fseq]
    split_ifs
    · rintro ⟨⟩; exact ⟨_, rfl, h.finish .notAttached, rfl⟩
    · rintro ⟨⟩; exact ⟨_, rfl, h.finish .invalidFrameLength, rfl⟩
    · rintro ⟨⟩; exact ⟨_, rfl, (h.setFrame _ _).commitFrame, rfl⟩
  | attach v =>
    simp only [exec, execAttach, h.attached]
    split_ifs
    · rintro ⟨⟩; exact ⟨_, rfl, h.finish .alreadyAttached, rfl⟩
    · cases variantOfCode v with
      | none => rintro ⟨⟩; exact ⟨_, rfl, h.finish .badVariant, rfl⟩
      | some _ => rintro ⟨⟩; exact ⟨_, rfl, ((h.setLifetime _ _).setFrame _ _).finish .ok, rfl⟩
  | detach => rintro ⟨⟩; exact ⟨_, rfl, (h.setLifetime _ _).finish .ok, rfl⟩

/-- Settles O10: the run ends with the meaning on a state of the same registers. -/
theorem cyclesRefineAtomicCommand : Obligations.CyclesRefineAtomicCommand := by
  intro s c i hr hp hi
  obtain ⟨v, hv, e⟩ := run_eq_completeCommand hr hp rfl
  obtain ⟨u, eu, -, -⟩ := completeCommand_ends c s
  rw [completeCommand_of_legal hi] at e eu
  obtain ⟨t, et, hregs, hcommit⟩ := exec_sameRegisters hv ((exec_setWait i s 0).trans eu)
  obtain ⟨t', et', hd, -⟩ := completeCommand_ends c v
  rw [completeCommand_of_legal hi, et] at et'
  cases et'
  exact ⟨t, u, e.trans et, eu, hregs, hd, hcommit⟩

end Sys2Proof.Machine
end

section
/-! SUPPORT. What a cycle does to ERR_ANY and to the result register file (R25, R43, R171). -/

namespace Sys2Proof.Machine

/-! ### ERR_ANY is sticky -/

/-- A port write clears ERR_ANY only as a STATUS write with lane 0 enabled and bit 1 set (R69). -/
theorem hostWrite_errAny {s : State} {a : BitVec 6} {be : BitVec 4} {d : Word} (h : s.errAny = true)
    (hw : a = 33 → (be.getLsbD 0 && d.getLsbD 1) = false) : (hostWrite s a be d).errAny = true := by
  rcases hostWrite_cases s a be d with ⟨-, e⟩ | ⟨-, e⟩ | ⟨ha, e⟩ | ⟨-, e⟩ | ⟨-, e⟩ <;> rw [e]
  · rw [writeFbWord_eq]; exact h
  · exact h
  · rw [writeStatus_eq, hw ha, h]; rfl
  · exact h
  · exact h

theorem portCycle_errAny {s : State} (h : s.errAny = true)
    (hw : ∀ be d q, s.hostQueue = .write 33 be d :: q → (be.getLsbD 0 && d.getLsbD 1) = false) :
    (portCycle s).errAny = true := by
  rcases portCycle_cases s with ⟨-, e⟩ | ⟨_, -, e⟩ | ⟨_, _, -, e⟩ | ⟨_, _, _, _, -, -, e⟩ | ⟨a, be, d, q, hq, -, e⟩ <;>
    rw [e]
  · exact h
  · exact h
  · exact h
  · exact h
  · exact hostWrite_errAny h fun ha => hw be d q (ha ▸ hq)

/-- No command clears ERR_ANY (R171). -/
theorem completeCommand_errAny {s t : State} {c : Command} (h : s.errAny = true) (e : completeCommand c s = .next t) :
    t.errAny = true := by
  rcases completeCommand_cases c s with ⟨i, -, ei⟩ | ⟨-, ei⟩
  · rcases exec_cases i s with ⟨_, -, e'⟩ | ⟨_, _, _, -, e'⟩ | ⟨-, -, -, e'⟩ | ⟨_, -, -, e'⟩ | ⟨-, e'⟩ | ⟨-, e'⟩ <;>
      cases (ei.trans e').symm.trans e <;> simp [h]
  · cases ei.symm.trans e
    simp [h]

/-- Settles O42. -/
theorem errAnyIsSticky : Obligations.ErrAnyIsSticky := by
  intro s t e h hr hw
  have hport : (portCycle s.beginCycle).errAny = true := portCycle_errAny h hw
  rcases step_cases s with ⟨hr', -⟩ | ⟨-, -, e'⟩ | ⟨-, -, -, e'⟩ | ⟨-, c, -, -, e'⟩
  · cases hr.symm.trans hr'
  · cases e'.symm.trans e
    exact hport
  · cases e'.symm.trans e
    exact hport
  · exact completeCommand_errAny hport (e'.symm.trans e)

/-! ### The results change as a whole -/

/-- A cycle of the port that ends with a command pending changed no byte of FB: a command already pending holds every
write, and the write that issues one is to CMD (R41, R74). -/
theorem portCycle_fbByte_of_pending {s : State} {c : Command} (hp : (portCycle s).pending = some c) :
    (portCycle s).fbByte = s.fbByte := by
  rcases portCycle_cases s with ⟨-, e⟩ | ⟨_, -, e⟩ | ⟨_, _, -, e⟩ | ⟨_, _, _, _, -, -, e⟩ | ⟨a, be, d, q, -, hb, e⟩ <;>
    rw [e] at hp ⊢
  · rfl
  · rfl
  · rcases hostWrite_cases s a be d with ⟨-, ew⟩ | ⟨-, ew⟩ | ⟨-, ew⟩ | ⟨-, ew⟩ | ⟨-, ew⟩ <;> rw [ew] at hp ⊢
    · rw [writeFbWord_eq] at hp
      rw [State.busy_eq, show s.pending = some c from hp] at hb
      cases hb
    · rfl
    · rw [writeStatus_eq]; rfl
    · rfl
    · rfl

/-- What a completion does to the result register file: nothing, one commit, or ATTACH clears it (R43, R141,
R161). -/
theorem completeCommand_results {s t : State} {c : Command} (e : completeCommand c s = .next t) :
    (t.frame = s.frame ∧ t.fseq = s.fseq) ∨
    (t.frameCommit = true ∧ t.fseq = s.fseq + 1 ∧ t.frame = decodeFrame Config.buttonBit s.fbByte s.variant) ∨
    (t.cmdDone = true ∧ t.errCode = .ok ∧ s.attached = false ∧ t.attached = true ∧ t.fseq = 0 ∧
      t.frame = .cleared) := by
  rcases completeCommand_cases c s with ⟨i, -, ei⟩ | ⟨-, ei⟩
  · rcases exec_cases i s with ⟨_, -, e'⟩ | ⟨_, _, _, -, e'⟩ | ⟨-, -, -, e'⟩ | ⟨_, -, ha, e'⟩ | ⟨-, e'⟩ | ⟨-, e'⟩ <;>
      cases (ei.trans e').symm.trans e
    · exact .inl ⟨rfl, rfl⟩
    · exact .inl ⟨rfl, rfl⟩
    · exact .inr (.inl ⟨rfl, rfl, rfl⟩)
    · exact .inr (.inr ⟨rfl, rfl, ha, rfl, rfl, rfl⟩)
    · exact .inl ⟨rfl, rfl⟩
    · exact .inl ⟨rfl, rfl⟩
  · cases ei.symm.trans e
    exact .inl ⟨rfl, rfl⟩

/-- Settles O43: outside reset only a completion writes the results, and it finds the bytes the cycle began with. -/
theorem resultsChangeOnlyAsAWhole : Obligations.ResultsChangeOnlyAsAWhole := by
  intro s t e hr
  rcases step_cases s with ⟨hr', -⟩ | ⟨-, -, e'⟩ | ⟨-, -, -, e'⟩ | ⟨-, c, hp, -, e'⟩
  · cases hr.symm.trans hr'
  · cases e'.symm.trans e
    exact .inl ⟨by simp, by simp⟩
  · cases e'.symm.trans e
    exact .inl ⟨by simp, by simp⟩
  · have hbytes : (portCycle s.beginCycle).fbByte = s.fbByte := portCycle_fbByte_of_pending hp
    have h := completeCommand_results (e'.symm.trans e)
    rw [hbytes] at h
    simpa using h

end Sys2Proof.Machine
end

section
/-! SUPPORT. The words and lanes of the port: what a write of each register leaves behind, field by field, and the FB
window's bytes as one little-endian word (R64, R67 to R71). -/

namespace Sys2Proof.Machine

/-! ### Where a write goes (R66) -/

/-- A write into the FB window (R67). -/
theorem hostWrite_fb (s : State) {w : BitVec 6} (h : w.toNat < 32) (be : BitVec 4) (d : Word) :
    hostWrite s w be d = s.writeFbWord (4 * w.toNat) be d := by
  unfold hostWrite byteAddr
  rw [if_pos (by omega)]

@[simp] theorem hostWrite_32 (s : State) (be : BitVec 4) (d : Word) : hostWrite s 32 be d = s.issue be d := rfl
@[simp] theorem hostWrite_33 (s : State) (be : BitVec 4) (d : Word) : hostWrite s 33 be d = s.writeStatus be d := rfl
@[simp] theorem hostWrite_34 (s : State) (be : BitVec 4) (d : Word) : hostWrite s 34 be d = s.writeFlen be d := rfl

/-- CFG, XR, FSEQ, the results and the reserved addresses take no write (R71). -/
theorem hostWrite_readOnly (s : State) {w : BitVec 6} (h : 35 ≤ w.toNat) (be : BitVec 4) (d : Word) :
    hostWrite s w be d = s := by
  rcases hostWrite_cases s w be d with ⟨hw, -⟩ | ⟨rfl, -⟩ | ⟨rfl, -⟩ | ⟨rfl, -⟩ | ⟨-, e⟩
  · omega
  · exact absurd h (by decide)
  · exact absurd h (by decide)
  · exact absurd h (by decide)
  · exact e

/-- The reserved addresses 0xF0 to 0xFC read 0 (R71). -/
theorem hostRead_reserved (s : State) {w : BitVec 6} (h : 60 ≤ w.toNat) : hostRead s w = 0 := by
  obtain ⟨k, rfl, hk, hk'⟩ : ∃ k, w = BitVec.ofNat 6 k ∧ 60 ≤ k ∧ k < 64 := ⟨w.toNat, by simp, h, w.isLt⟩
  clear h
  interval_cases k <;> rfl

/-- Settles O51. -/
theorem readOnlyAddressesIgnoreWrites : Obligations.ReadOnlyAddressesIgnoreWrites := by
  intro s w be d
  exact ⟨fun h => hostWrite_readOnly s h be d, hostRead_reserved s, fun h => h ▸ hostRead_32 s⟩

/-- Settles O49: of the write's bits only lane 0's enable and bit 1 are read, and they decide ERR_ANY. -/
theorem statusWriteClearsErrAny : Obligations.StatusWriteClearsErrAny := by
  intro s be d
  rw [hostWrite_33, writeStatus_eq]
  constructor
  · rintro ⟨hb, hd⟩
    simp only [hb, hd, Bool.and_self, Bool.not_true, Bool.and_false]
  · intro h
    have hclear : (be.getLsbD 0 && d.getLsbD 1) = false := by simpa only [Bool.and_eq_false_iff] using h
    simp only [hclear, Bool.not_false, Bool.and_true]

/-! ### FLEN (R70) -/

/-- Bit k of lane i is bit 8i + k of the word (R64). -/
theorem getLsbD_lane (d : Word) (i : Nat) {k : Nat} (h : k < 8) : (lane d i).getLsbD k = d.getLsbD (8 * i + k) := by
  simp [lane, h]

/-- FLEN[7:0] is written by lane 0 (R70). -/
theorem getLsbD_writeFlen_low (s : State) (be : BitVec 4) (d : Word) {k : Nat} (h : k < 8) :
    (s.writeFlen be d).flen.getLsbD k = if be.getLsbD 0 then d.getLsbD k else s.flen.getLsbD k := by
  rw [State.writeFlen, BitVec.getLsbD_append, if_pos h]
  split
  · simpa using getLsbD_lane d 0 h
  · simp [h]

/-- FLEN[15:8] is written by lane 1 (R70). -/
theorem getLsbD_writeFlen_high (s : State) (be : BitVec 4) (d : Word) {k : Nat} (h : 8 ≤ k) (h' : k < 16) :
    (s.writeFlen be d).flen.getLsbD k = if be.getLsbD 1 then d.getLsbD k else s.flen.getLsbD k := by
  have hk : 8 + (k - 8) = k := by omega
  rw [State.writeFlen, BitVec.getLsbD_append, if_neg (by omega)]
  split
  · rw [getLsbD_lane d 1 (by omega), Nat.mul_one, hk]
  · rw [BitVec.getLsbD_extractLsb', hk, decide_eq_true (by omega), Bool.true_and]

/-- Settles O50. -/
theorem flenWriteSetsItsLanes : Obligations.FlenWriteSetsItsLanes := by
  intro s be d
  rw [hostWrite_34, hostRead_34]
  exact ⟨writeFlen_eq s be d, fun k => getLsbD_writeFlen_low s be d, fun k => getLsbD_writeFlen_high s be d,
    BitVec.toNat_setWidth_of_le (by decide)⟩

/-! ### The FB window (R64, R67) -/

/-- Settles O47. -/
theorem fbWindowWriteTouchesOnlyFb : Obligations.FbWindowWriteTouchesOnlyFb := by
  intro s w be d h
  rw [hostWrite_fb s h]
  exact writeFbWord_eq s _ be d

/-- A byte of FB after a window write, which sets its four bytes one lane after the other (R67). -/
theorem fbByte_writeFbWord {s : State} (h : Memory.wf s.fb = true) {a : Nat} (ha : a + 3 < 128) (be : BitVec 4)
    (d : Word) (k : Nat) :
    (s.writeFbWord a be d).fbByte k =
      if k < a ∨ a + 3 < k then s.fbByte k
      else if be.getLsbD (k - a) then lane d (k - a) else s.fbByte k := by
  have h1 := (writeLane_spec h (by omega : a + 0 < 128) be d k).1
  have h2 := (writeLane_spec h1 (by omega : a + 1 < 128) be d k).1
  have h3 := (writeLane_spec h2 (by omega : a + 2 < 128) be d k).1
  rw [State.writeFbWord, (writeLane_spec h3 ha be d k).2, (writeLane_spec h2 (by omega) be d k).2,
    (writeLane_spec h1 (by omega) be d k).2, (writeLane_spec h (by omega) be d k).2]
  by_cases hk : k < a ∨ a + 3 < k
  · rw [if_pos hk, if_neg (by omega), if_neg (by omega), if_neg (by omega), if_neg (by omega)]
  · obtain ⟨i, rfl, hi⟩ : ∃ i, k = a + i ∧ i < 4 := ⟨k - a, by omega, by omega⟩
    interval_cases i <;> simp

/-- A window write sets the bytes of the enabled lanes and leaves those of the others (R67). -/
theorem fbByte_writeFbWord_lane {s : State} (h : Memory.wf s.fb = true) {a i : Nat} (ha : a + 3 < 128) (hi : i < 4)
    (be : BitVec 4) (d : Word) :
    (s.writeFbWord a be d).fbByte (a + i) = if be.getLsbD i then lane d i else s.fbByte (a + i) := by
  rw [fbByte_writeFbWord h ha, if_neg (by omega), Nat.add_sub_cancel_left]

/-- The word a window read gives is the little-endian value of its four bytes (R61, R67). -/
theorem toNat_fbWord (s : State) (a : Nat) : (s.fbWord a).toNat = memRead s.fbByte a 4 := by
  rw [memRead_eq_sum]
  simp only [State.fbWord, toNat_append_add, Finset.sum_range_succ, Finset.sum_range_zero, Nat.add_zero]
  omega

/-- A word is its four lanes, lane 0 lowest (R64). -/
theorem lanes_append (d : Word) : lane d 3 ++ lane d 2 ++ lane d 1 ++ lane d 0 = d := by
  apply BitVec.eq_of_toNat_eq
  have := d.isLt
  simp only [toNat_append_add, lane, BitVec.extractLsb'_toNat, Nat.shiftRight_eq_div_pow]
  omega

/-- A whole word written into the window is the word read there (R67). -/
theorem fbWord_writeFbWord_whole {s : State} (h : Memory.wf s.fb = true) {a : Nat} (ha : a + 3 < 128) (d : Word) :
    (s.writeFbWord a 0b1111 d).fbWord a = d := by
  have byte : ∀ i, i < 4 → (s.writeFbWord a 0b1111 d).fbByte (a + i) = lane d i := by
    intro i hi
    rw [fbByte_writeFbWord_lane h ha hi, if_pos (by interval_cases i <;> rfl)]
  have byte_zero : (s.writeFbWord a 0b1111 d).fbByte a = lane d 0 := byte 0 (by omega)
  rw [State.fbWord, byte 3 (by omega), byte 2 (by omega), byte 1 (by omega), byte_zero, lanes_append]

/-- Settles O46. -/
theorem fbWindowWritesEnabledLanes : Obligations.FbWindowWritesEnabledLanes := by
  intro s w be d h hw
  have ha : 4 * w.toNat + 3 < 128 := by omega
  rw [hostWrite_fb s hw]
  refine ⟨fun i hi => fbByte_writeFbWord_lane h.fbCanonical ha hi be d, fun a hout => ?_, ?_⟩
  · rw [fbByte_writeFbWord h.fbCanonical ha, if_pos hout]
  · rw [hostRead_fb s w hw, toNat_fbWord, memRead_eq_sum]

end Sys2Proof.Machine
end

section
/-! SUPPORT. The field extractions that succeed, and the value each puts into XR (R61, R62, R100 to R103). -/

namespace Sys2Proof.Machine

/-! ### Values -/

/-- The sign of a w-bit field is its bit w-1 (R9, R102). -/
theorem signedBits_eq_testBit {w : Nat} (v : Nat) (h : 1 ≤ w) :
    signedBits w v = if v.testBit (w - 1) then ((v % 2 ^ w : Nat) : Int) - 2 ^ w else ((v % 2 ^ w : Nat) : Int) := by
  have hmsb : (2 ^ (w - 1) ≤ lowBits w v) ↔ v.testBit (w - 1) = true := by
    have hbit : (lowBits w v).testBit (w - 1) = v.testBit (w - 1) := by
      rw [lowBits, Nat.testBit_mod_two_pow, decide_eq_true (by omega), Bool.true_and]
    rw [← hbit]
    constructor
    · intro hle
      exact Nat.testBit_of_two_pow_le_and_two_pow_add_one_gt hle
        (by rw [Nat.sub_add_cancel h]; exact lowBits_lt w v)
    · exact Nat.ge_two_pow_of_testBit
  simp only [signedBits, hmsb]
  rfl

/-- The packed field is the signed value of its three bytes (R62, R103). -/
theorem toInt_packed24 (b : Nat → Byte) (off : Nat) :
    (packed24 b off).toInt = ((b off).toNat : Int) + 256 * (b (off + 1)).toNat + 65536 * (b (off + 2)).toNat -
      (if 128 ≤ (b (off + 2)).toNat then 16777216 else 0) := by
  have h0 := (b off).isLt
  have h1 := (b (off + 1)).isLt
  have h2 := (b (off + 2)).isLt
  rw [packed24, asr32, BitVec.toInt_sshiftRight, Int.shiftRight_eq_div_pow, BitVec.toInt_eq_toNat_cond, packedWord]
  simp only [toNat_append_add, BitVec.toNat_ofNat]
  split_ifs <;> omega

/-- A whole word extended to a word is itself. -/
theorem zext32_toNat (d : Word) : zext32 32 d.toNat = d := by
  apply BitVec.eq_of_toNat_eq
  rw [toNat_zext32 le_rfl, Nat.mod_eq_of_lt d.isLt]

/-! ### The commands where their checks pass -/

/-- EXTU of a legal width inside FB puts the zero-extended field into XR (R101). -/
theorem exec_extu_of_legal (s : State) {off w : Nat} (h1 : 1 ≤ w) (h2 : w ≤ 32) (h : off + nbytes w ≤ 128) :
    exec (.extu off w) s = .next ((s.setXr (zext32 w (memRead s.fbByte off (nbytes w)))).finish .ok) := by
  rcases execExtu_cases off w s with ⟨hw, -⟩ | ⟨-, hr, -⟩ | ⟨-, -, e⟩
  · exact absurd ⟨h1, h2⟩ hw
  · omega
  · exact e

/-- EXTS of a legal width inside FB puts the sign-extended field into XR (R102). -/
theorem exec_exts_of_legal (s : State) {off w : Nat} (h1 : 1 ≤ w) (h2 : w ≤ 32) (h : off + nbytes w ≤ 128) :
    exec (.exts off w) s = .next ((s.setXr (sext32 w (memRead s.fbByte off (nbytes w)))).finish .ok) := by
  rcases execExts_cases off w s with ⟨hw, -⟩ | ⟨-, hr, -⟩ | ⟨-, -, e⟩
  · exact absurd ⟨h1, h2⟩ hw
  · omega
  · exact e

/-- EXTP24 inside FB puts the packed field into XR (R103). -/
theorem exec_extp24_of_legal (s : State) {off : Nat} (h : off + 3 ≤ 128) :
    exec (.extp24 off) s = .next ((s.setXr (packed24 s.fbByte off)).finish .ok) := by
  rcases execExtp24_cases off s with ⟨hr, -⟩ | ⟨-, e⟩
  · omega
  · exact e

/-- What every successful extraction reports and leaves alone, whatever it put into XR (R100). -/
theorem report_setXr_finish (s : State) (x : Word) :
    Succeeded s ((s.setXr x).finish .ok) ∧ ((s.setXr x).finish .ok).frameCommit = false ∧
      KeepsFrame s ((s.setXr x).finish .ok) ∧ KeepsLifetime s ((s.setXr x).finish .ok) ∧
      KeepsSurroundings s ((s.setXr x).finish .ok) :=
  ⟨succeeded_finish rfl, rfl, ⟨rfl, rfl⟩, ⟨rfl, rfl⟩, ((KeepsSurroundings.refl s).setXr x).finish .ok⟩

/-- Settles O12. -/
theorem extuReadsUnsignedField : Obligations.ExtuReadsUnsignedField := by
  intro s off w h1 h2 h
  refine ⟨_, exec_extu_of_legal s h1 h2 h, ?_, report_setXr_finish s _⟩
  rw [State.finish_xr, State.setXr_xr, toNat_zext32 h2, memRead_eq_sum, nbytes]

/-- Settles O13. -/
theorem extsReadsSignedField : Obligations.ExtsReadsSignedField := by
  intro s off w h1 h2 h
  refine ⟨_, exec_exts_of_legal s h1 h2 h, ?_, report_setXr_finish s _⟩
  rintro v rfl
  rw [State.finish_xr, State.setXr_xr, toInt_sext32 _ h1 h2, memRead_eq_sum, signedBits_eq_testBit _ h1, nbytes]

/-- Settles O14. -/
theorem extp24ReadsPackedSignedField : Obligations.Extp24ReadsPackedSignedField := by
  intro s off h
  exact ⟨_, exec_extp24_of_legal s h, toInt_packed24 s.fbByte off, report_setXr_finish s _⟩

/-- Settles O48: the field of the four bytes is the word a window read gives, and that is the word written. -/
theorem writtenWordIsExtracted : Obligations.WrittenWordIsExtracted := by
  intro s w d h hw
  have hword := fbWord_writeFbWord_whole h.fbCanonical (by omega : 4 * w.toNat + 3 < 128) d
  rw [hostWrite_fb s hw]
  refine ⟨_, exec_extu_of_legal _ (by decide) (by decide) (by rw [nbytes]; omega), ?_⟩
  rw [State.finish_xr, State.setXr_xr, show nbytes 32 = 4 from rfl, ← toNat_fbWord, hword, zext32_toNat]

end Sys2Proof.Machine
end

section
/-! SUPPORT. A cycle of the port and its command side by side: what the command leaves of the port's outputs, and
what it is to the command that the host requested something (R63, R68, R72, R74). -/

namespace Sys2Proof.Machine

/-! ### The command leaves the port alone, and the port's queue and data outputs leave the command alone -/

/-- `s` with the port's queue and data outputs as given. -/
def State.withPort (s : State) (q : List HostRequest) (a : Bool) (r : Option Word) : State :=
  { s with hostQueue := q, ack := a, rdata := r }

theorem sameRegisters_withPort (s : State) (q : List HostRequest) (a : Bool) (r : Option Word) :
    SameRegisters s (s.withPort q a r) := { SameRegisters.refl s with }

/-- Every completion pulses `cmd_done` (R174). -/
theorem completeCommand_cmdDone {s t : State} {c : Command} (e : completeCommand c s = .next t) : t.cmdDone = true := by
  obtain ⟨_, e', hdone, -⟩ := completeCommand_ends c s
  cases e.symm.trans e'
  exact hdone

/-- A completion reads registers alone, as the meanings do. -/
theorem completeCommand_sameRegisters {s s' t : State} (h : SameRegisters s s') {c : Command}
    (e : completeCommand c s = .next t) :
    ∃ t', completeCommand c s' = .next t' ∧ SameRegisters t t' ∧ t'.frameCommit = t.frameCommit := by
  unfold completeCommand at e ⊢
  split at e
  · exact exec_sameRegisters h e
  · cases e
    exact ⟨_, rfl, h.finish .illegalOp, rfl⟩

/-- A completion reads nothing of the port and keeps what stands there. -/
theorem completeCommand_withPort {s t : State} {c : Command} (e : completeCommand c s = .next t)
    (q : List HostRequest) (a : Bool) (r : Option Word) :
    completeCommand c (s.withPort q a r) = .next (t.withPort q a r) := by
  obtain ⟨t', e', hregs, hcommit⟩ := completeCommand_sameRegisters (sameRegisters_withPort s q a r) e
  have hk := noCommandWritesTheBuffer s t c e
  have hk' := noCommandWritesTheBuffer _ t' c e'
  have hrst : t'.rstLine = t.rstLine := hk'.rstLine.trans hk.rstLine.symm
  have hdone : t'.cmdDone = t.cmdDone := (completeCommand_cmdDone e').trans (completeCommand_cmdDone e).symm
  rw [e', hregs.eq, hrst, hk'.hostQueue, hk'.ack, hk'.rdata, hdone, hcommit]
  rfl

/-- The command's part of a cycle leaves FB, FLEN, the inputs to come and the port's data outputs (R22, R23, R41). -/
theorem advance_keepsSurroundings {s t : State} (e : advance s = .next t) : KeepsSurroundings s t := by
  unfold advance at e
  split at e
  · cases e; exact .refl s
  · split_ifs at e
    · exact noCommandWritesTheBuffer s t _ e
    · cases e; exact { KeepsSurroundings.refl s with }

/-- The command's part of a cycle reads nothing of the port. -/
theorem advance_withPort {s t : State} (e : advance s = .next t) (q : List HostRequest) (a : Bool) (r : Option Word) :
    advance (s.withPort q a r) = .next (t.withPort q a r) := by
  unfold advance at e ⊢
  rw [show (s.withPort q a r).pending = s.pending from rfl, show (s.withPort q a r).wait = s.wait from rfl]
  cases hp : s.pending with
  | none => rw [hp] at e; cases e; rfl
  | some c =>
    rw [hp] at e
    dsimp only at e ⊢
    split_ifs at e ⊢
    · exact completeCommand_withPort e q a r
    · cases e; rfl

/-! ### The port's part of a cycle, by what is requested -/

/-- Without reset a cycle is the port's part and then the command's (log 1). -/
theorem step_eq_advance {s : State} (hr : s.rstAsserted = false) : step s = advance (portCycle s.beginCycle) := by
  rw [step, clockEdge, hr]; rfl

theorem beginCycle_sameRegisters (s : State) : SameRegisters s s.beginCycle := { SameRegisters.refl s with }

theorem portCycle_of_read {s : State} {a : BitVec 6} {q : List HostRequest} (h : s.hostQueue = .read a :: q) :
    portCycle s = s.acknowledge q (some (hostRead s a)) := by
  rw [portCycle, h]

theorem portCycle_of_write_busy {s : State} {a : BitVec 6} {be : BitVec 4} {d : Word} {q : List HostRequest}
    (h : s.hostQueue = .write a be d :: q) (hb : s.busy = true) : portCycle s = s := by
  rw [portCycle, h]; exact if_pos hb

theorem portCycle_of_write_idle {s : State} {a : BitVec 6} {be : BitVec 4} {d : Word} {q : List HostRequest}
    (h : s.hostQueue = .write a be d :: q) (hb : s.busy = false) :
    portCycle s = (hostWrite s a be d).acknowledge q none := by
  rw [portCycle, h]; exact if_neg (by simp [hb])

/-- Settles O54: the cycle is that of an idle port but for the port's outputs, which the command neither reads nor
changes. -/
theorem readsAreNeverHeldAndHaveNoEffect : Obligations.ReadsAreNeverHeldAndHaveNoEffect := by
  intro s t u a q hr hq et eu
  rw [step_eq_advance hr, portCycle_of_read (s := s.beginCycle) hq, (beginCycle_sameRegisters s).hostRead a] at et
  rw [step_eq_advance (s := { s with hostQueue := .idle :: q }) hr] at eu
  have hqueue : u.hostQueue = q := (advance_keepsSurroundings eu).hostQueue
  cases (advance_withPort eu q true (some (hostRead s a))).symm.trans et
  refine ⟨rfl, rfl, ?_⟩
  rw [State.withPort, hqueue]

/-! ### A write that is performed -/

theorem SameRegisters.writeLane {s t : State} (h : SameRegisters s t) (a : Nat) (be : BitVec 4) (d : Word) (i : Nat) :
    SameRegisters (s.writeLane a be d i) (t.writeLane a be d i) := by
  unfold State.writeLane
  split
  · exact { h with fb := by simp [h.fb], fbWritten := by simp [h.fbWritten] }
  · exact h

/-- A write does the same to the registers of two states that agree in them. -/
theorem SameRegisters.hostWrite {s t : State} (h : SameRegisters s t) (a : BitVec 6) (be : BitVec 4) (d : Word) :
    SameRegisters (hostWrite s a be d) (hostWrite t a be d) := by
  unfold Machine.hostWrite
  split
  · exact (((h.writeLane _ be d 0).writeLane _ be d 1).writeLane _ be d 2).writeLane _ be d 3
  · split
    · exact { h with pending := rfl, wait := rfl }
    · rw [writeStatus_eq, writeStatus_eq]
      exact { h with errAny := by simp [h.errAny] }
    · exact { h with flen := by simp [State.writeFlen, h.flen] }
    · exact h

/-- Only a CMD write issues a command (R41, R68). -/
theorem hostWrite_pending (s : State) {a : BitVec 6} (ha : a ≠ 32) (be : BitVec 4) (d : Word) :
    (hostWrite s a be d).pending = s.pending := by
  rcases hostWrite_cases s a be d with ⟨-, e⟩ | ⟨h, -⟩ | ⟨-, e⟩ | ⟨-, e⟩ | ⟨-, e⟩
  · rw [e, writeFbWord_eq]
  · exact absurd h ha
  · rw [e, writeStatus_eq]
  · rw [e, writeFlen_eq]
  · rw [e]

/-- A cycle that performs a write ends its port's part with the registers the write leaves. -/
theorem portCycle_write_sameRegisters {s : State} {a : BitVec 6} {be : BitVec 4} {d : Word} {q : List HostRequest}
    (h : s.hostQueue = .write a be d :: q) (hb : s.busy = false) :
    SameRegisters (hostWrite s a be d) (portCycle s.beginCycle) := by
  rw [portCycle_of_write_idle (s := s.beginCycle) h hb]
  exact { (beginCycle_sameRegisters s).hostWrite a be d with }

/-- Settles O55. While BUSY the port does nothing, as if nothing were requested; while idle it performs the write, and
without a command the rest of the cycle adds nothing. -/
theorem writesAreHeldWhileBusy : Obligations.WritesAreHeldWhileBusy := by
  intro s t a be d q hr hq et
  rw [step_eq_advance hr] at et
  have hk := advance_keepsSurroundings et
  constructor
  · intro hb
    rw [portCycle_of_write_busy (s := s.beginCycle) hq hb] at et hk
    refine ⟨hk.ack, hk.hostQueue, fun u eu => ?_⟩
    rw [step_eq_advance (s := { s with hostQueue := [] }) hr] at eu
    have hack : u.ack = false := (advance_keepsSurroundings eu).ack
    have hdata : u.rdata = none := (advance_keepsSurroundings eu).rdata
    cases (advance_withPort eu s.hostQueue false none).symm.trans et
    show u.withPort s.hostQueue false none = u.withPort s.hostQueue u.ack u.rdata
    rw [hack, hdata]
  · intro hb
    have hregs := portCycle_write_sameRegisters hq hb
    have hport := portCycle_of_write_idle (s := s.beginCycle) hq hb
    refine ⟨hk.ack.trans (by rw [hport]; rfl), hk.rdata.trans (by rw [hport]; rfl),
      hk.hostQueue.trans (by rw [hport]; rfl), fun x => (hk.bytes x).trans (hregs.fbByte x),
      hk.flen.trans hregs.flen, fun ha => ?_⟩
    have hidle : (portCycle s.beginCycle).pending = none := by
      rw [hregs.pending, hostWrite_pending s ha]
      simpa [State.busy_eq] using hb
    rw [advance, hidle] at et
    cases et
    exact hregs

/-! ### A command through the port -/

/-- Settles O7: only the last of a completion's cases is left, on a state with the registers of the cycle's start. -/
theorem illegalCommandOnlyReportsIllegalOp : Obligations.IllegalCommandOnlyReportsIllegalOp := by
  intro s c hr hp hw hill
  have h := cyclePort_sameRegisters hp
  have hno : ∀ i, decodeIssued c.be c.word ≠ .ok i := by
    intro i hi
    rw [decodeIssued] at hi
    split_ifs at hi with hbe
    rcases hill with hbe' | hword
    · exact hbe' hbe
    · exact hword i hi
  have hstep : step s = .next ((portCycle s.beginCycle).finish .illegalOp) := by
    rw [step_of_due hr hp hw]
    rcases completeCommand_cases c (portCycle s.beginCycle) with ⟨i, hi, -⟩ | ⟨-, e⟩
    · exact absurd hi (hno i)
    · exact e
  exact ⟨_, hstep, rfl, by simp, rfl, rfl, rfl, h.xr, h.flen, h.fb, h.fbByte, ⟨h.frame, h.fseq⟩,
    ⟨h.attached, h.variant⟩⟩

/-- The run from the cycle that leaves a command pending after its port's part to the completion, on a state with the
registers of that command's acceptance. -/
theorem run_eq_completeCommand_of_port {s : State} {c : Command} {n : Nat} (hr : NoReset s)
    (hp : (portCycle s.beginCycle).pending = some c) (hw : (portCycle s.beginCycle).wait = n) :
    ∃ u : State, SameRegisters { portCycle s.beginCycle with wait := 0 } u ∧
      Host.Core.run Sys2Proof.core (n + 1) s = completeCommand c u := by
  have hstep := step_eq_advance hr.rstAsserted
  rw [advance, hp] at hstep
  cases n with
  | zero =>
    exact ⟨_, { SameRegisters.refl (portCycle s.beginCycle) with wait := hw },
      (run_one Sys2Proof.core s).trans (hstep.trans (if_pos hw))⟩
  | succ n =>
    have hrest : NoReset (portCycle s.beginCycle).countDown := hr.of_tail (by simp)
    obtain ⟨u, hu, e⟩ := run_eq_completeCommand (n := n) hrest hp (by rw [State.countDown_wait, hw]; rfl)
    have hcount := hstep.trans (if_neg (by omega))
    exact ⟨u, hu, (run_of_step Sys2Proof.core (n + 1) s _ hcount).trans e⟩

/-- A meaning reads nothing of PENDING and the wait: it is the same applied to the state of the acceptance (R73). -/
theorem exec_accept (i : Instr) (s : State) (c : Command) (n : Nat) : exec i (s.accept c n) = exec i s := by
  cases i <;> rfl

/-- Settles O11: the write issues the command in its own cycle, and the run from there ends with its meaning. -/
theorem commandWriteRunsToItsEffect : Obligations.CommandWriteRunsToItsEffect := by
  intro s d q i hr hp hq hd
  have hregs := portCycle_write_sameRegisters hq (by rw [State.busy_eq, hp]; rfl)
  rw [hostWrite_32, State.issue] at hregs
  obtain ⟨v, hv, e⟩ := run_eq_completeCommand_of_port hr hregs.pending hregs.wait
  have hlegal : decodeIssued 0b1111 d = .ok i := hd
  obtain ⟨u, eu, -⟩ := completeCommand_ends ⟨d, 0b1111⟩ s
  rw [completeCommand_of_legal hlegal] at eu
  obtain ⟨t, et, hsame, -⟩ := exec_sameRegisters ((hregs.setWait 0).trans hv) ((exec_accept i s _ 0).trans eu)
  rw [← completeCommand_of_legal (c := ⟨d, 0b1111⟩) hlegal] at et
  exact ⟨t, u, e.trans et, eu, hsame, completeCommand_cmdDone et⟩

end Sys2Proof.Machine
end

section
/-! SUPPORT. The match/mask table and the decoder over it: what it means that a row selects a word, which words the
decoder reads, and that decoder and encoder are inverse to each other (30_encoding.md R80 to R86). -/

namespace Sys2Proof

open Machine (liveBit)

/-! ### Rows and the words they select (R83) -/

/-- R83's test: a row selects a word whose bits under its mask are its match value. -/
theorem OpRow.selects_iff {r : OpRow} {w : Word} : r.selects w = true ↔ w &&& r.mask = r.value := by
  simp [OpRow.selects]

/-- A row's match value is its opcode, in the OP field (R83). -/
theorem OpRow.value_eq {r : OpRow} (hr : r ∈ opRows) : r.value = r.op.setWidth 32 := by
  have h : ∀ r ∈ opRows, r.value = r.op.setWidth 32 := by decide
  exact h r hr

/-- A row's mask holds OP and every bit that is not live (R83). -/
theorem OpRow.getLsbD_mask {r : OpRow} (hr : r ∈ opRows) {k : Nat} (hk : k < 32) :
    r.mask.getLsbD k = true ↔ k < 4 ∨ ¬ liveBit r.op.toNat k := by
  have h : ∀ r ∈ opRows, ∀ k < 32, (r.mask.getLsbD k = true ↔ k < 4 ∨ ¬ liveBit r.op.toNat k) := by
    unfold liveBit; decide
  exact h r hr k hk

/-- A row fixes each field its mask covers. -/
theorem OpRow.extractLsb'_of_selects {r : OpRow} {w : Word} (h : r.selects w = true) {a n : Nat}
    (hm : r.mask.extractLsb' a n = BitVec.allOnes n) : w.extractLsb' a n = r.value.extractLsb' a n := by
  rw [← OpRow.selects_iff.mp h, BitVec.extractLsb'_and, hm, BitVec.and_allOnes]

/-- The OP of a selected word is the row's. -/
theorem OpRow.opField_of_selects {r : OpRow} {w : Word} (hr : r ∈ opRows) (h : r.selects w = true) :
    opField w = r.op := by
  have hrow : ∀ r ∈ opRows, r.mask.extractLsb' 0 4 = BitVec.allOnes 4 ∧ opField r.value = r.op := by decide
  obtain ⟨hmask, hvalue⟩ := hrow r hr
  exact (OpRow.extractLsb'_of_selects h hmask).trans hvalue

/-- Settles O3: a row that selects the word has its OP, and the seven rows differ in OP. -/
theorem atMostOnePatternSelects : Obligations.AtMostOnePatternSelects := by
  intro w r r' hr hr' h h'
  have hinj : ∀ r ∈ opRows, ∀ r' ∈ opRows, r.op = r'.op → r = r' := by decide
  exact hinj r hr r' hr' ((OpRow.opField_of_selects hr h).symm.trans (OpRow.opField_of_selects hr' h'))

/-! ### The decoder (R82, R83) -/

/-- A row's opcode makes a command. -/
theorem OpRow.exists_assemble {r : OpRow} (hr : r ∈ opRows) (w : Word) : ∃ i, assemble r.op w = some i := by
  simp only [opRows, List.mem_cons, List.not_mem_nil, or_false] at hr
  rcases hr with rfl | rfl | rfl | rfl | rfl | rfl | rfl <;> exact ⟨_, rfl⟩

/-- The decoder's search finds the row that selects the word. -/
theorem find?_opRows_of_selects {r : OpRow} {w : Word} (hr : r ∈ opRows) (h : r.selects w = true) :
    opRows.find? (fun r => r.selects w) = some r := by
  cases hf : opRows.find? (fun r => r.selects w) with
  | none => exact absurd h (List.find?_eq_none.mp hf r hr)
  | some r' =>
    have h' : r'.selects w = true := by simpa using List.find?_some hf
    rw [atMostOnePatternSelects w r' r (List.mem_of_find?_eq_some hf) hr h' h]

/-- A selected word decodes to the command its row assembles. -/
theorem decodeWord_of_selects {r : OpRow} {w : Word} {i : Instr} (hr : r ∈ opRows) (h : r.selects w = true)
    (hi : assemble r.op w = some i) : decodeWord w = .ok i := by
  simp only [decodeWord, find?_opRows_of_selects hr h, hi]

/-- A word that no row selects is illegal. -/
theorem decodeWord_of_not_selects {w : Word} (h : ∀ r ∈ opRows, ¬ r.selects w = true) :
    ∃ e, decodeWord w = .error e := by
  simp only [decodeWord, List.find?_eq_none.mpr h]
  split_ifs
  · exact ⟨_, rfl⟩
  · exact ⟨_, rfl⟩

/-- A word is illegal exactly when no row selects it. -/
theorem decodeWord_error_iff (w : Word) :
    (∃ e, decodeWord w = .error e) ↔ ∀ r ∈ opRows, ¬ r.selects w = true := by
  refine ⟨fun ⟨e, he⟩ r hr h => ?_, decodeWord_of_not_selects⟩
  obtain ⟨i, hi⟩ := OpRow.exists_assemble hr w
  cases he.symm.trans (decodeWord_of_selects hr h hi)

/-- A word decodes to a command exactly when some row selects it and assembles that command. -/
theorem decodeWord_ok_iff (w : Word) (i : Instr) :
    decodeWord w = .ok i ↔ ∃ r ∈ opRows, r.selects w = true ∧ assemble r.op w = some i := by
  refine ⟨fun hd => ?_, fun ⟨r, hr, h, hi⟩ => decodeWord_of_selects hr h hi⟩
  by_cases hsel : ∀ r ∈ opRows, ¬ r.selects w = true
  · obtain ⟨e, he⟩ := decodeWord_of_not_selects hsel
    cases he.symm.trans hd
  · push Not at hsel
    obtain ⟨r, hr, h⟩ := hsel
    obtain ⟨j, hj⟩ := OpRow.exists_assemble hr w
    cases (decodeWord_of_selects hr h hj).symm.trans hd
    exact ⟨r, hr, h, hj⟩

/-! ### Decoder and encoder are inverse (R81, R85, R86) -/

/-- The family EncodeSelects over every command. -/
theorem encodeSelects (i : Instr) : Laws.EncodeSelects.Statement i := by
  cases i with
  | nop => exact Laws.EncodeSelects.nop
  | extu off w => exact Laws.EncodeSelects.extu off w
  | exts off w => exact Laws.EncodeSelects.exts off w
  | extp24 off => exact Laws.EncodeSelects.extp24 off
  | decode => exact Laws.EncodeSelects.decode
  | attach v => exact Laws.EncodeSelects.attach v
  | detach => exact Laws.EncodeSelects.detach

/-- Settles O1: a row selects a command's own word and assembles the command again. -/
theorem decodeUndoesEncode : Obligations.DecodeUndoesEncode :=
  fun i hi => (decodeWord_ok_iff (encode i) i).mpr (encodeSelects i hi)

/-- A word with 0 in the bits of no field is the layout of its four fields (R80). -/
theorem layoutWord_fields {w : Word} (h : w &&& 0xFCC080F0 = 0) :
    layoutWord (varField w) (widthField w) (offField w) (opField w) = w := by
  apply BitVec.eq_of_getLsbD_eq
  intro k hk
  have hbit : (w &&& 0xFCC080F0).getLsbD k = false := by rw [h]; exact BitVec.getLsbD_zero
  rw [BitVec.getLsbD_and] at hbit
  simp only [layoutWord, varField, widthField, offField, opField, BitVec.getLsbD_append, BitVec.getLsbD_extractLsb']
  interval_cases k <;> simp_all

/-- A selected word has 0 in the bits of no field (R80, R83). -/
theorem OpRow.and_unused_of_selects {r : OpRow} {w : Word} (hr : r ∈ opRows) (h : r.selects w = true) :
    w &&& 0xFCC080F0 = 0 := by
  have hrow : ∀ r ∈ opRows, r.mask &&& 0xFCC080F0 = 0xFCC080F0 ∧ r.value &&& 0xFCC080F0 = 0 := by decide
  obtain ⟨hmask, hvalue⟩ := hrow r hr
  rw [← hmask, ← BitVec.and_assoc, OpRow.selects_iff.mp h, hvalue]

/-- An operand is assembled from its field, so it fits the field (R81). -/
theorem assemble_wellFormed {op : BitVec 4} {w : Word} {i : Instr} (h : assemble op w = some i) : i.WellFormed := by
  have hoff : (offField w).toNat < 128 := (offField w).isLt
  have hwidth : (widthField w).toNat < 64 := (widthField w).isLt
  have hvar : (varField w).toNat < 4 := (varField w).isLt
  unfold assemble at h
  split at h <;> cases h <;> simp [Instr.WellFormed, Instr.wellFormed, hoff, hwidth, hvar]

/-- The command a row assembles from a selected word has that word: the operands are the live fields, and the other
fields are fixed by the row as they are by the encoder. -/
theorem encode_of_selects {r : OpRow} {w : Word} {i : Instr} (hr : r ∈ opRows) (h : r.selects w = true)
    (hi : assemble r.op w = some i) : encode i = w := by
  have hw := layoutWord_fields (OpRow.and_unused_of_selects hr h)
  rw [OpRow.opField_of_selects hr h] at hw
  have hoff : r.mask.extractLsb' 8 7 = BitVec.allOnes 7 → offField w = _ := OpRow.extractLsb'_of_selects h
  have hwidth : r.mask.extractLsb' 16 6 = BitVec.allOnes 6 → widthField w = _ := OpRow.extractLsb'_of_selects h
  have hvar : r.mask.extractLsb' 24 2 = BitVec.allOnes 2 → varField w = _ := OpRow.extractLsb'_of_selects h
  simp only [opRows, List.mem_cons, List.not_mem_nil, or_false] at hr
  rcases hr with rfl | rfl | rfl | rfl | rfl | rfl | rfl <;> cases hi
  · rwa [hvar rfl, hwidth rfl, hoff rfl] at hw
  · rw [hvar rfl] at hw; simpa [encode] using hw
  · rw [hvar rfl] at hw; simpa [encode] using hw
  · rw [hvar rfl, hwidth rfl] at hw; simpa [encode] using hw
  · rwa [hvar rfl, hwidth rfl, hoff rfl] at hw
  · rw [hwidth rfl, hoff rfl] at hw; simpa [encode] using hw
  · rwa [hvar rfl, hwidth rfl, hoff rfl] at hw

/-- Settles O2: the row a legal word selects assembles its one command, which has that word. -/
theorem encodeUndoesDecode : Obligations.EncodeUndoesDecode := by
  intro w i hd
  obtain ⟨r, hr, h, hi⟩ := (decodeWord_ok_iff w i).mp hd
  exact ⟨assemble_wellFormed hi, encode_of_selects hr h hi⟩

/-! ### Illegal words (R84) -/

/-- A row selects the words with its OP and no 1 outside OP and the live fields. -/
theorem OpRow.selects_iff_live {r : OpRow} (hr : r ∈ opRows) (w : Word) :
    r.selects w = true ↔ opField w = r.op ∧ ∀ k < 32, w.getLsbD k = true → liveBit r.op.toNat k := by
  constructor
  · refine fun h => ⟨OpRow.opField_of_selects hr h, fun k hk hbit => ?_⟩
    by_contra hdead
    have hmask := (OpRow.getLsbD_mask hr hk).mpr (.inr hdead)
    have hk4 : 4 ≤ k := by by_contra hlt; exact hdead (.inl (by omega))
    have hvalue : r.value.getLsbD k = true := by
      rw [← OpRow.selects_iff.mp h, BitVec.getLsbD_and, hbit, hmask]; rfl
    rw [OpRow.value_eq hr, BitVec.getLsbD_setWidth, BitVec.getLsbD_of_ge r.op k hk4, Bool.and_false] at hvalue
    exact Bool.false_ne_true hvalue
  · rintro ⟨hop, hlive⟩
    refine OpRow.selects_iff.mpr (BitVec.eq_of_getLsbD_eq fun k hk => ?_)
    rw [OpRow.value_eq hr, ← hop, BitVec.getLsbD_and]
    have hmask := OpRow.getLsbD_mask hr hk
    by_cases hk4 : k < 4
    · simp [hmask.mpr (.inl hk4), opField, hk, hk4]
    · have hoff : ¬ (w.getLsbD k = true ∧ r.mask.getLsbD k = true) := fun ⟨hbit, hm⟩ =>
        (hmask.mp hm).elim hk4 (fun hdead => hdead (hlive k hk hbit))
      simpa [opField, hk4] using hoff

/-- The rows are those of the opcodes 0 to 6 (R82). -/
theorem exists_row_iff (op : BitVec 4) : (∃ r ∈ opRows, r.op = op) ↔ op.toNat < 7 := by
  revert op; decide

/-- Settles O4: an illegal word is one that no row selects, because none has its OP or because its OP's row finds a 1
in a bit that is not live. -/
theorem illegalWordsAreReservedOrNonLive : Obligations.IllegalWordsAreReservedOrNonLive := by
  intro w
  have hw : w.toNat % 16 = (opField w).toNat := by simp [opField]
  rw [show decodeIssued 0b1111 w = decodeWord w from rfl, decodeWord_error_iff, hw]
  constructor
  · intro hno
    by_cases hop : 7 ≤ (opField w).toNat
    · exact .inl hop
    · obtain ⟨r, hr, hrop⟩ := (exists_row_iff (opField w)).mpr (by omega)
      have hlive := hno r hr
      rw [OpRow.selects_iff_live hr, hrop] at hlive
      push Not at hlive
      exact .inr (hlive rfl)
  · rintro hbad r hr h
    obtain ⟨hop, hlive⟩ := (OpRow.selects_iff_live hr w).mp h
    rcases hbad with hres | ⟨k, hk, hbit, hdead⟩
    · have hlt := (exists_row_iff (opField w)).mp ⟨r, hr, hop.symm⟩
      omega
    · exact hdead (hop ▸ hlive k hk hbit)

/-- Settles O5, by decoding each word. -/
theorem specWordsDecodeAsWritten : Obligations.SpecWordsDecodeAsWritten := by
  unfold Obligations.SpecWordsDecodeAsWritten
  decide

end Sys2Proof
end

section
/-! SUPPORT. The field extractions that fail, the packed field as a 24-bit field, and the bytes an extraction reads
(R100, R103 to R105). -/

namespace Sys2Proof.Machine

/-! ### The commands where a check fails -/

/-- EXTU of an illegal width only reports WIDTH_ERR, wherever the offset (R100). -/
theorem exec_extu_of_illegal_width (s : State) (off : Nat) {w : Nat} (hw : ¬ (1 ≤ w ∧ w ≤ 32)) :
    exec (.extu off w) s = .next (s.finish .widthErr) := by
  rcases execExtu_cases off w s with ⟨-, e⟩ | ⟨h, -⟩ | ⟨h, -⟩
  · exact e
  · exact absurd h hw
  · exact absurd h hw

/-- EXTS of an illegal width only reports WIDTH_ERR, wherever the offset (R100). -/
theorem exec_exts_of_illegal_width (s : State) (off : Nat) {w : Nat} (hw : ¬ (1 ≤ w ∧ w ≤ 32)) :
    exec (.exts off w) s = .next (s.finish .widthErr) := by
  rcases execExts_cases off w s with ⟨-, e⟩ | ⟨h, -⟩ | ⟨h, -⟩
  · exact e
  · exact absurd h hw
  · exact absurd h hw

/-- EXTU of a legal width past FB only reports RANGE (R101). -/
theorem exec_extu_past_buffer (s : State) {off w : Nat} (hw : 1 ≤ w ∧ w ≤ 32) (h : 128 < off + nbytes w) :
    exec (.extu off w) s = .next (s.finish .range) := by
  rcases execExtu_cases off w s with ⟨h', -⟩ | ⟨-, -, e⟩ | ⟨-, h', -⟩
  · exact absurd hw h'
  · exact e
  · omega

/-- EXTS of a legal width past FB only reports RANGE (R102). -/
theorem exec_exts_past_buffer (s : State) {off w : Nat} (hw : 1 ≤ w ∧ w ≤ 32) (h : 128 < off + nbytes w) :
    exec (.exts off w) s = .next (s.finish .range) := by
  rcases execExts_cases off w s with ⟨h', -⟩ | ⟨-, -, e⟩ | ⟨-, h', -⟩
  · exact absurd hw h'
  · exact e
  · omega

/-- EXTP24 past FB only reports RANGE (R103). -/
theorem exec_extp24_past_buffer (s : State) {off : Nat} (h : 128 < off + 3) :
    exec (.extp24 off) s = .next (s.finish .range) := by
  rcases execExtp24_cases off s with ⟨-, e⟩ | ⟨h', -⟩
  · exact e
  · omega

/-- Settles O15. -/
theorem extractIllegalWidthFails : Obligations.ExtractIllegalWidthFails := by
  intro s off w h
  have hw : ¬ (1 ≤ w ∧ w ≤ 32) := by omega
  have hfailed := failed_finish s (c := .widthErr) (by decide)
  exact ⟨⟨_, exec_extu_of_illegal_width s off hw, hfailed⟩, ⟨_, exec_exts_of_illegal_width s off hw, hfailed⟩⟩

/-- Settles O16. -/
theorem extractPastBufferFails : Obligations.ExtractPastBufferFails := by
  have hfailed := fun s => failed_finish s (c := .range) (by decide)
  constructor
  · intro s off w h1 h2 h
    exact ⟨⟨_, exec_extu_past_buffer s ⟨h1, h2⟩ h, hfailed s⟩, ⟨_, exec_exts_past_buffer s ⟨h1, h2⟩ h, hfailed s⟩⟩
  · intro s off h
    exact ⟨_, exec_extp24_past_buffer s (by omega), hfailed s⟩

/-! ### The packed field is the sign-extended 24-bit field (R104) -/

/-- `s_w` is the library's signed reading of the low w bits. -/
theorem signedBits_eq_toInt {w : Nat} (v : Nat) (h : 1 ≤ w) : signedBits w v = (BitVec.ofNat w v).toInt := by
  have hpow : 2 ^ w = 2 * 2 ^ (w - 1) := (mul_pow_sub_one (by omega) 2).symm
  have hcond : 2 ^ (w - 1) ≤ lowBits w v ↔ ¬ 2 * lowBits w v < 2 ^ w := by omega
  rw [signedBits, BitVec.toInt_eq_toNat_cond, BitVec.toNat_ofNat]
  change _ = if 2 * lowBits w v < 2 ^ w then (lowBits w v : Int) else (lowBits w v : Int) - (2 ^ w : Nat)
  simp only [hcond, ite_not, Nat.cast_pow, Nat.cast_ofNat]

/-- `sext_32` is the library's sign extension of the low w bits. -/
theorem sext32_eq_signExtend {w : Nat} (v : Nat) (h : 1 ≤ w) : sext32 w v = (BitVec.ofNat w v).signExtend 32 := by
  rw [sext32, signedBits_eq_toInt v h, BitVec.signExtend]

/-- Three bytes read little-endian are their concatenation, the last on top. -/
theorem ofNat_memRead_three (b : Nat → Byte) (off : Nat) :
    BitVec.ofNat 24 (memRead b off 3) = b (off + 2) ++ b (off + 1) ++ b off := by
  apply BitVec.eq_of_toNat_eq
  have h : memRead b off 3 < 2 ^ 24 := memRead_lt b 3 off
  rw [BitVec.toNat_ofNat, Nat.mod_eq_of_lt h, toNat_append_add, toNat_append_add]
  simp only [memRead_succ, memRead_zero, Nat.add_assoc, Nat.reduceAdd]
  omega

/-- Shifting `{x, 0x00}` right by 8, arithmetically, sign-extends x (R104). -/
theorem asr32_append_zero (x : BitVec 24) : asr32 (x ++ 0#8) 8 = x.signExtend 32 := by
  apply BitVec.eq_of_toInt_eq
  rw [asr32, BitVec.toInt_sshiftRight, BitVec.toInt_append_zero, BitVec.toInt_signExtend_of_le (by decide),
    Int.shiftRight_eq_div_pow]
  exact Int.mul_ediv_cancel_left _ (by decide)

/-- The packed field sign-extends the concatenation of its three bytes. -/
theorem packed24_eq_signExtend (b : Nat → Byte) (off : Nat) :
    packed24 b off = (b (off + 2) ++ b (off + 1) ++ b off : BitVec 24).signExtend 32 :=
  asr32_append_zero (b (off + 2) ++ b (off + 1) ++ b off)

/-- Settles O17: both values are the sign extension of the three bytes. -/
theorem extp24EqualsExts24 : Obligations.Extp24EqualsExts24 := by
  intro s off h
  have hvalue : packed24 s.fbByte off = sext32 24 (memRead s.fbByte off (nbytes 24)) := by
    rw [packed24_eq_signExtend, sext32_eq_signExtend _ (by decide), show nbytes 24 = 3 from rfl, ofNat_memRead_three]
  constructor
  · rw [exec_extp24_of_legal s h, exec_exts_of_legal s (by decide) (by decide) h, hvalue]
  · exact ⟨_, exec_extp24_of_legal s h, packed24_eq_signExtend s.fbByte off⟩

/-! ### An extraction reads its word and FB alone (R105) -/

/-- The packed field reads its own three bytes. -/
theorem packed24_congr {b b' : Nat → Byte} {off : Nat} (h : ∀ i, i < 3 → b (off + i) = b' (off + i)) :
    packed24 b off = packed24 b' off := by
  have h0 : b off = b' off := h 0 (by omega)
  rw [packed24, packed24, h0, h 1 (by omega), h 2 (by omega)]

/-- Over the same 128 bytes an extraction ends, in both states, with the same error or with the same value in XR. -/
theorem extraction_congr {s s' : State} {off w : Nat} {i : Instr}
    (hi : i = .extu off w ∨ i = .exts off w ∨ i = .extp24 off) (h : ∀ a, a < 128 → s.fbByte a = s'.fbByte a) :
    (∃ c, c ≠ .ok ∧ exec i s = .next (s.finish c) ∧ exec i s' = .next (s'.finish c)) ∨
    (∃ x, exec i s = .next ((s.setXr x).finish .ok) ∧ exec i s' = .next ((s'.setXr x).finish .ok)) := by
  have hfield : off + nbytes w ≤ 128 → memRead s.fbByte off (nbytes w) = memRead s'.fbByte off (nbytes w) :=
    fun hr => memRead_congr fun k hk => h (off + k) (by omega)
  rcases hi with rfl | rfl | rfl
  · rcases execExtu_cases off w s with ⟨hw, e⟩ | ⟨hw, hr, e⟩ | ⟨⟨h1, h2⟩, hr, e⟩
    · exact .inl ⟨_, by decide, e, exec_extu_of_illegal_width s' off hw⟩
    · exact .inl ⟨_, by decide, e, exec_extu_past_buffer s' hw hr⟩
    · exact .inr ⟨_, e, hfield hr ▸ exec_extu_of_legal s' h1 h2 hr⟩
  · rcases execExts_cases off w s with ⟨hw, e⟩ | ⟨hw, hr, e⟩ | ⟨⟨h1, h2⟩, hr, e⟩
    · exact .inl ⟨_, by decide, e, exec_exts_of_illegal_width s' off hw⟩
    · exact .inl ⟨_, by decide, e, exec_exts_past_buffer s' hw hr⟩
    · exact .inr ⟨_, e, hfield hr ▸ exec_exts_of_legal s' h1 h2 hr⟩
  · rcases execExtp24_cases off s with ⟨hr, e⟩ | ⟨hr, e⟩
    · exact .inl ⟨_, by decide, e, exec_extp24_past_buffer s' hr⟩
    · have hpacked := packed24_congr fun k hk => h (off + k) (by omega)
      exact .inr ⟨_, e, hpacked ▸ exec_extp24_of_legal s' hr⟩

/-- Settles O18. -/
theorem extractionReadsOnlyTheBuffer : Obligations.ExtractionReadsOnlyTheBuffer := by
  intro s s' t t' off w i hi h e e'
  rcases extraction_congr hi h with ⟨c, hc, es, es'⟩ | ⟨x, es, es'⟩
  · cases es.symm.trans e
    cases es'.symm.trans e'
    exact ⟨rfl, fun hok => absurd hok hc⟩
  · cases es.symm.trans e
    cases es'.symm.trans e'
    exact ⟨rfl, fun _ => rfl⟩

end Sys2Proof.Machine
end

section
/-! SUPPORT. DECODE where its checks are decided, the fields of the frame it commits, the bits of FB they read, and the
cycle of a commit (R121 to R142, R174). -/

namespace Sys2Proof.Machine

/-! ### The checks (R121, R122) -/

/-- In an open lifetime with FLEN other than 128 DECODE only reports INVALID_FRAME_LENGTH (R122). -/
theorem exec_decode_of_wrong_length {s : State} (ha : s.attached = true) (hl : s.flen ≠ 128) :
    exec .decode s = .next (s.finish .invalidFrameLength) := by
  rcases execDecode_cases s with ⟨h, -⟩ | ⟨-, -, e⟩ | ⟨-, h, -⟩
  · cases ha.symm.trans h
  · exact e
  · exact absurd h hl

/-- Settles O19. -/
theorem decodeChecksAttachmentThenLength : Obligations.DecodeChecksAttachmentThenLength := by
  constructor
  · intro s ha
    exact ⟨_, exec_decode_of_detached ha, failed_finish s (by decide)⟩
  · intro s ha hl
    exact ⟨_, exec_decode_of_wrong_length ha hl, failed_finish s (by decide)⟩

/-! ### The commit (R141, R142, R174) -/

/-- Settles O32: the first commit leaves FB, FLEN and CFG, which are all that the second one reads. -/
theorem decodeTwiceCommitsTheSameFrame : Obligations.DecodeTwiceCommitsTheSameFrame := by
  intro s ha hl
  refine ⟨_, _, exec_decode_of_ready ha hl, exec_decode_of_ready ha hl, rfl, ?_⟩
  simp only [State.commitFrame_fseq, State.setFrame_fseq, BitVec.add_assoc]
  rfl

/-- A cycle of the port that ends with a command pending left FLEN: its write, if it performed one, was to CMD (R41,
R74). -/
theorem portCycle_flen_of_pending {s : State} {c : Command} (hp : (portCycle s).pending = some c) :
    (portCycle s).flen = s.flen := by
  rcases portCycle_cases s with ⟨-, e⟩ | ⟨_, -, e⟩ | ⟨_, _, -, e⟩ | ⟨_, _, _, _, -, -, e⟩ | ⟨a, be, d, q, -, hb, e⟩ <;>
    rw [e] at hp ⊢
  · rfl
  · rfl
  · by_cases ha : a = 32
    · rw [ha]; rfl
    · rw [State.acknowledge_pending, hostWrite_pending s ha] at hp
      rw [State.busy_eq, hp] at hb
      cases hb

/-- Of all completions only a successful DECODE's pulses `frame_commit` (R141, R174). -/
theorem completeCommand_commits {s t : State} {c : Command} (e : completeCommand c s = .next t)
    (ht : t.frameCommit = true) :
    s.attached = true ∧ s.flen = 128 ∧
      t = (s.setFrame (decodeFrame Config.buttonBit s.fbByte s.variant) (s.fseq + 1)).commitFrame := by
  rcases completeCommand_cases c s with ⟨i, -, ei⟩ | ⟨-, ei⟩
  · rcases exec_cases i s with ⟨_, -, e'⟩ | ⟨_, _, _, -, e'⟩ | ⟨-, ha, hl, e'⟩ | ⟨_, -, -, e'⟩ | ⟨-, e'⟩ | ⟨-, e'⟩ <;>
      cases (ei.trans e').symm.trans e
    · cases ht
    · cases ht
    · exact ⟨ha, hl, rfl⟩
    · cases ht
    · cases ht
    · cases ht
  · cases ei.symm.trans e
    cases ht

/-- Settles O44: only a completion raises `frame_commit`, and it finds CFG, FLEN and FSEQ as the cycle began. -/
theorem frameCommitMarksADecode : Obligations.FrameCommitMarksADecode := by
  intro s t e ht
  rcases step_cases s with ⟨-, e'⟩ | ⟨-, -, e'⟩ | ⟨-, -, -, e'⟩ | ⟨-, c, hp, -, e'⟩
  · cases e'.symm.trans e
    cases ht
  · cases e'.symm.trans e
    simp at ht
  · cases e'.symm.trans e
    simp at ht
  · obtain ⟨ha, hl, rfl⟩ := completeCommand_commits (e'.symm.trans e) ht
    rw [portCycle_attached] at ha
    rw [portCycle_flen_of_pending hp] at hl
    refine ⟨rfl, rfl, ha, hl, ?_⟩
    rw [State.commitFrame_fseq, State.setFrame_fseq, portCycle_fseq, State.beginCycle_fseq]

/-! ### Buttons (R123 to R125) -/

/-- The mask's four lanes, as a number (R123). -/
theorem toNat_buttonMask (b : Nat → Byte) :
    (buttonMask b).toNat = (b 4).toNat * 2 ^ 24 + (b 80).toNat * 2 ^ 16 + (b 2).toNat * 2 ^ 8 + (b 3).toNat := by
  simp only [buttonMask, toNat_append_add]
  omega

/-- Settles O20. -/
theorem decodeAssemblesButtonMask : Obligations.DecodeAssemblesButtonMask := by
  intro s ha hl
  obtain ⟨hmask, -⟩ := decodeFrame_shared Config.buttonBit s.fbByte s.variant
  refine ⟨_, exec_decode_of_ready ha hl, ?_⟩
  rw [State.commitFrame_frame, State.setFrame_frame, hmask, toNat_buttonMask]

/-- No two buttons share a position (R125). -/
theorem buttonBit_injective : Function.Injective Config.buttonBit :=
  Config.buttonPlace.injective.comp (Fin.castLE_injective _)

/-- Over distinct positions a mask with one button's bit alone shows that button alone (R124, R125). -/
theorem buttons_one_shiftLeft {pos : Fin 17 → Fin 32} (hpos : Function.Injective pos) (j : Fin 17) :
    buttons pos (1#32 <<< (pos j).val) = 1#17 <<< j.val := by
  rw [← BitVec.twoPow_eq, ← BitVec.twoPow_eq]
  apply BitVec.eq_of_getLsbD_eq
  intro i hi
  have hbit : (pos j).val = (pos ⟨i, hi⟩).val ↔ j.val = i := by
    rw [Fin.val_inj, hpos.eq_iff, Fin.ext_iff]
  have hbutton := getLsbD_buttons pos (BitVec.twoPow 32 (pos j).val) ⟨i, hi⟩
  rw [hbutton, BitVec.getLsbD_twoPow, BitVec.getLsbD_twoPow]
  simp [hbit]

/-- Settles O21. -/
theorem decodeTestsEachButton : Obligations.DecodeTestsEachButton := by
  refine ⟨fun j k h => buttonBit_injective h, fun s ha hl => ?_⟩
  obtain ⟨hmask, hbtn, -⟩ := decodeFrame_shared Config.buttonBit s.fbByte s.variant
  refine ⟨_, exec_decode_of_ready ha hl, ?_⟩
  rw [State.commitFrame_frame, State.setFrame_frame, hmask, hbtn]
  constructor
  · exact getLsbD_buttons Config.buttonBit _
  · intro j hj
    rw [hj, buttons_one_shiftLeft buttonBit_injective]

/-! ### Sticks and volume (R126 to R128) -/

/-- A stick axis is its signed pair, clamped (R126, R127). -/
theorem toInt_stickAxis_of_pair (b : Nat → Byte) (i : Nat) {raw : Int}
    (hraw : raw = (b (6 + 2 * i)).toNat + 256 * (b (7 + 2 * i)).toInt) :
    (stickAxis b i).toInt = if raw < 900 then 900 else if raw > 3200 then 3200 else raw := by
  rw [toInt_stickAxis, signedBits_pair, show 6 + 2 * i + 1 = 7 + 2 * i by omega, ← hraw]
  rfl

/-- Settles O22. -/
theorem decodeClampsEachStick : Obligations.DecodeClampsEachStick := by
  intro s ha hl
  obtain ⟨-, -, hlx, hly, hrx, hry, -⟩ := decodeFrame_shared Config.buttonBit s.fbByte s.variant
  refine ⟨_, exec_decode_of_ready ha hl, fun i r raw hr hraw => ?_⟩
  rw [State.commitFrame_frame, State.setFrame_frame, hlx, hly, hrx, hry] at hr
  have haxis : r = stickAxis s.fbByte i := by
    rcases hr with ⟨rfl, h⟩ | ⟨rfl, h⟩ | ⟨rfl, h⟩ | ⟨rfl, h⟩ <;> exact h
  rw [haxis, toInt_stickAxis_of_pair s.fbByte i hraw]

/-- Settles O23. -/
theorem decodeCopiesVolume : Obligations.DecodeCopiesVolume := by
  intro s ha hl
  obtain ⟨-, -, -, -, -, -, hvol, -⟩ := decodeFrame_shared Config.buttonBit s.fbByte s.variant
  refine ⟨_, exec_decode_of_ready ha hl, ?_⟩
  rw [hostRead_46, State.commitFrame_frame, State.setFrame_frame, hvol]
  exact ⟨rfl, BitVec.toNat_setWidth_of_le (by decide)⟩

/-! ### Touch (R129 to R133) -/

/-- A touch coordinate is the low 12 bits of the pair it starts (R129). -/
theorem touch12_eq_memRead (b : Nat → Byte) (a : Nat) : touch12 b a = memRead b a 2 % 2 ^ 12 := by
  have := (b a).isLt
  rw [touch12_eq, memRead_succ, memRead_succ, memRead_zero]
  omega

/-- A 12-bit EXTU leaves a touch coordinate in XR (R101, R129). -/
theorem exec_extu_twelve (s : State) {off : Nat} (h : off + 2 ≤ 128) :
    ∃ t, exec (.extu off 12) s = .next t ∧ t.xr.toNat = touch12 s.fbByte off := by
  refine ⟨_, exec_extu_of_legal s (by decide) (by decide) h, ?_⟩
  rw [State.finish_xr, State.setXr_xr, toNat_zext32 (by decide), touch12_eq_memRead, show nbytes 12 = 2 from rfl]

/-- Settles O25: the lanes of both sums are touch coordinates, and so are the twenty extractions. -/
theorem touchSubsamplesAreTwelveBitExtractions : Obligations.TouchSubsamplesAreTwelveBitExtractions := by
  intro s ha hl
  have hx : ∀ i, i < 10 → ∃ t, exec (.extu (36 + 4 * i) 12) s = .next t ∧ t.xr.toNat = touchSampleX s.fbByte i :=
    fun i hi => exec_extu_twelve s (by omega)
  have hy : ∀ i, i < 10 → ∃ t, exec (.extu (38 + 4 * i) 12) s = .next t ∧ t.xr.toNat = touchSampleY s.fbByte i := by
    intro i hi
    rw [touchSampleY, show 36 + 4 * i + 2 = 38 + 4 * i by omega]
    exact exec_extu_twelve s (by omega)
  have : Nonempty State := ⟨s⟩
  choose! x hx hxr using hx
  choose! y hy hyr using hy
  refine ⟨_, x, y, exec_decode_of_ready ha hl, fun i hi => ⟨hx i hi, hy i hi⟩, ?_⟩
  rw [State.commitFrame_frame, State.setFrame_frame, toNat_decodeFrame_tsumX, toNat_decodeFrame_tsumY, touchSumX,
    touchSumY, sumLanes_eq_sum, sumLanes_eq_sum]
  exact ⟨Finset.sum_congr rfl fun i hi => (hxr i (Finset.mem_range.mp hi)).symm,
    Finset.sum_congr rfl fun i hi => (hyr i (Finset.mem_range.mp hi)).symm⟩

/-- Settles O26: sums of at most 40950 make a mean of at most 4095, so the flip stays above 0. -/
theorem decodeAveragesAndFlipsTouch : Obligations.DecodeAveragesAndFlipsTouch := by
  intro s ha hl
  have hx := touchSumX_le s.fbByte
  have hy := touchSumY_le s.fbByte
  refine ⟨_, exec_decode_of_ready ha hl, ?_⟩
  rw [State.commitFrame_frame, State.setFrame_frame, toNat_decodeFrame_touchX, toNat_decodeFrame_touchY,
    toNat_decodeFrame_tsumX, toNat_decodeFrame_tsumY]
  omega

/-! ### Pressure (R134, R135) -/

/-- A pressure group is bits 6:4 of its byte, as a number (R134). -/
theorem pressGroup_eq (b : Nat → Byte) (k : Nat) : pressGroup b k = (b (37 + 2 * k)).toNat / 16 % 8 := by
  rw [pressGroup, BitVec.extractLsb'_toNat, Nat.shiftRight_eq_div_pow]

/-- Four 3-bit groups fill the 12 bits of PRES without a carry (R134). -/
theorem toNat_pressMask (b : Nat → Byte) :
    (pressMask b).toNat = ∑ k ∈ Finset.range 4, ((b (37 + 2 * k)).toNat / 16 % 8) * 2 ^ (3 * k) := by
  simp only [pressMask, BitVec.toNat_ofNat, sumLanes_eq_sum, pressGroup_eq, Nat.shiftLeft_eq]
  apply Nat.mod_eq_of_lt
  simp only [Finset.sum_range_succ, Finset.sum_range_zero]
  omega

/-- Settles O27. -/
theorem decodeAssemblesPressure : Obligations.DecodeAssemblesPressure := by
  intro s ha hl
  obtain ⟨-, -, -, -, -, -, -, -, -, -, -, hpres, -⟩ := decodeFrame_shared Config.buttonBit s.fbByte s.variant
  refine ⟨_, exec_decode_of_ready ha hl, ?_, decodeFrame_tact Config.buttonBit s.fbByte s.variant⟩
  rw [State.commitFrame_frame, State.setFrame_frame, hpres, toNat_pressMask]

/-! ### Motion (R136 to R139) -/

/-- A motion pair is its two bytes, the second on top (R136, R138). -/
theorem motion16_eq_append (b : Nat → Byte) (off : Nat) : motion16 b off = b (off + 1) ++ b off := by
  apply BitVec.eq_of_toNat_eq
  have h0 := (b off).isLt
  have h1 := (b (off + 1)).isLt
  rw [motion16, BitVec.toNat_ofNat, toNat_append_add, memRead_succ, memRead_succ, memRead_zero]
  omega

/-- The accelerometer and the magnetometer of an EXTENDED decode (R136, R138). -/
theorem decodeFrame_extended_pairs (pos : Fin 17 → Fin 32) (b : Nat → Byte) :
    (decodeFrame pos b .extended).accX = b 16 ++ b 15 ∧ (decodeFrame pos b .extended).accY = b 18 ++ b 17 ∧
    (decodeFrame pos b .extended).accZ = b 20 ++ b 19 ∧ (decodeFrame pos b .extended).magX = b 31 ++ b 30 ∧
    (decodeFrame pos b .extended).magY = b 33 ++ b 32 ∧ (decodeFrame pos b .extended).magZ = b 35 ++ b 34 :=
  ⟨motion16_eq_append b 15, motion16_eq_append b 17, motion16_eq_append b 19, motion16_eq_append b 30,
    motion16_eq_append b 32, motion16_eq_append b 34⟩

/-- Settles O28. -/
theorem decodeReadsMotionWhenExtended : Obligations.DecodeReadsMotionWhenExtended := by
  intro s ha hl hv
  obtain ⟨hax, hay, haz, hmx, hmy, hmz⟩ := decodeFrame_extended_pairs Config.buttonBit s.fbByte
  have hgyro : ∀ off, off + 3 ≤ 128 → ∃ u, exec (.extp24 off) s = .next u ∧ packed24 s.fbByte off = u.xr :=
    fun off h => ⟨_, exec_extp24_of_legal s h, rfl⟩
  refine ⟨_, exec_decode_of_ready ha hl, ?_⟩
  rw [hostRead_51, hostRead_52, hostRead_53, hostRead_57, hostRead_58, hostRead_59, State.commitFrame_frame,
    State.setFrame_frame, hv, hax, hay, haz, hmx, hmy, hmz]
  exact ⟨rfl, rfl, rfl, hgyro 21 (by decide), hgyro 24 (by decide), hgyro 27 (by decide), rfl, rfl, rfl, rfl, rfl, rfl,
    rfl, rfl, rfl⟩

/-- Settles O29. -/
theorem decodeZeroesMotionWhenBasic : Obligations.DecodeZeroesMotionWhenBasic := by
  intro s ha hl hv
  refine ⟨_, exec_decode_of_ready ha hl, ?_⟩
  rw [State.commitFrame_frame, State.setFrame_frame, hv]
  exact decodeFrame_basic_motionZero Config.buttonBit s.fbByte

/-! ### The bits a DECODE reads (R140, R142) -/

/-- The two buffers agree on every bit that a DECODE of the variant reads (R140). -/
def AgreeOnUsedBits (v : Variant) (b b' : Nat → Byte) : Prop :=
  ∀ a, a < 128 → b a &&& usedBits v a = b' a &&& usedBits v a

/-- Agreement carries to every field of a byte that is wholly used. -/
theorem AgreeOnUsedBits.extractLsb' {v : Variant} {b b' : Nat → Byte} (h : AgreeOnUsedBits v b b') {a lo n : Nat}
    (ha : a < 128) (hused : (usedBits v a).extractLsb' lo n = BitVec.allOnes n) :
    (b a).extractLsb' lo n = (b' a).extractLsb' lo n := by
  have := congrArg (BitVec.extractLsb' lo n) (h a ha)
  rwa [BitVec.extractLsb'_and, BitVec.extractLsb'_and, hused, BitVec.and_allOnes, BitVec.and_allOnes] at this

/-- So a byte that is wholly used is the same in both. -/
theorem AgreeOnUsedBits.byte {v : Variant} {b b' : Nat → Byte} (h : AgreeOnUsedBits v b b') {a : Nat} (ha : a < 128)
    (hused : usedBits v a = 0xFF) : b a = b' a := by
  have := h.extractLsb' (lo := 0) (n := 8) ha (by rw [hused]; rfl)
  rwa [BitVec.extractLsb'_eq_self, BitVec.extractLsb'_eq_self] at this

/-! #### Which bits are used, by R140's rows: each is a finite check of the table -/

/-- Either variant reads the buttons, the sticks and the volume whole. -/
theorem usedBits_shared (v : Variant) :
    ∀ a < 128, 2 ≤ a ∧ a < 5 ∨ 6 ≤ a ∧ a < 15 ∨ a = 80 → usedBits v a = 0xFF := by
  cases v <;> decide

/-- Either variant reads the low byte of a touch coordinate, and the low nibble of its high byte. -/
theorem usedBits_touch (v : Variant) :
    ∀ a < 75, 36 ≤ a ∧ a % 2 = 0 →
      usedBits v a = 0xFF ∧ (usedBits v (a + 1)).extractLsb' 0 4 = BitVec.allOnes 4 := by
  cases v <;> decide

/-- Either variant reads the pressure groups. -/
theorem usedBits_pressure (v : Variant) :
    ∀ k < 4, (usedBits v (37 + 2 * k)).extractLsb' 4 3 = BitVec.allOnes 3 := by
  cases v <;> decide

/-- EXTENDED reads the motion bytes whole. -/
theorem usedBits_motion : ∀ a < 36, 15 ≤ a → usedBits .extended a = 0xFF := by decide

/-! #### What is decoded from the used bits is the same over buffers that agree on them -/

section
variable {v : Variant} {b b' : Nat → Byte} (h : AgreeOnUsedBits v b b')
include h

theorem AgreeOnUsedBits.shared {a : Nat} (ha : 2 ≤ a ∧ a < 5 ∨ 6 ≤ a ∧ a < 15 ∨ a = 80) : b a = b' a :=
  have ha' : a < 128 := by omega
  h.byte ha' (usedBits_shared v a ha' ha)

theorem AgreeOnUsedBits.buttonMask : buttonMask b = buttonMask b' := by
  have h4 : b 4 = b' 4 := h.shared (by decide)
  have h80 : b 80 = b' 80 := h.shared (by decide)
  have h2 : b 2 = b' 2 := h.shared (by decide)
  have h3 : b 3 = b' 3 := h.shared (by decide)
  rw [Machine.buttonMask, Machine.buttonMask, h4, h80, h2, h3]

theorem AgreeOnUsedBits.stickAxis {i : Nat} (hi : i < 4) : stickAxis b i = stickAxis b' i := by
  have hpair : memRead b (6 + 2 * i) 2 = memRead b' (6 + 2 * i) 2 := memRead_congr fun k hk => h.shared (by omega)
  rw [Machine.stickAxis, Machine.stickAxis, hpair]

theorem AgreeOnUsedBits.touch12 {a : Nat} (ha : a < 75) (hrow : 36 ≤ a ∧ a % 2 = 0) : touch12 b a = touch12 b' a := by
  obtain ⟨hlow, hhigh⟩ := usedBits_touch v a ha hrow
  rw [Machine.touch12, Machine.touch12, h.byte (by omega) hlow, h.extractLsb' (by omega) hhigh]

theorem AgreeOnUsedBits.touchSumX : touchSumX b = touchSumX b' :=
  sumLanes_congr fun i (hi : i < 10) => h.touch12 (by omega) (by omega)

theorem AgreeOnUsedBits.touchSumY : touchSumY b = touchSumY b' :=
  sumLanes_congr fun i (hi : i < 10) => h.touch12 (by omega) (by omega)

theorem AgreeOnUsedBits.pressMask : pressMask b = pressMask b' := by
  have hgroup : ∀ k, k < 4 → pressGroup b k <<< (3 * k) = pressGroup b' k <<< (3 * k) := by
    intro k hk
    rw [pressGroup, pressGroup, h.extractLsb' (by omega) (usedBits_pressure v k hk)]
  rw [Machine.pressMask, Machine.pressMask, sumLanes_congr hgroup]

/-- So the fields that both variants decode are the same (R123 to R135). -/
theorem AgreeOnUsedBits.decodeBasic (pos : Fin 17 → Fin 32) : decodeBasic pos b = decodeBasic pos b' := by
  have h14 : b 14 = b' 14 := h.shared (by decide)
  have h0 := h.stickAxis (i := 0) (by decide)
  have h1 := h.stickAxis (i := 1) (by decide)
  have h2 := h.stickAxis (i := 2) (by decide)
  have h3 := h.stickAxis (i := 3) (by decide)
  rw [Machine.decodeBasic, Machine.decodeBasic, h.buttonMask, h0, h1, h2, h3, h14, h.touchSumX, h.touchSumY,
    h.pressMask]

end

/-- And so are the motion fields, where they are decoded (R136 to R138). -/
theorem AgreeOnUsedBits.withMotion {b b' : Nat → Byte} (h : AgreeOnUsedBits .extended b b') (f : DecodedFrame) :
    withMotion b f = withMotion b' f := by
  have hbyte : ∀ a, 15 ≤ a → a < 36 → b a = b' a :=
    fun a ha ha' => h.byte (by omega) (usedBits_motion a ha' ha)
  have hpair : ∀ off, 15 ≤ off → off < 35 → motion16 b off = motion16 b' off := by
    intro off ho ho'
    rw [motion16, motion16, memRead_congr fun i hi => hbyte (off + i) (by omega) (by omega)]
  have hgyro : ∀ off, 15 ≤ off → off < 34 → packed24 b off = packed24 b' off :=
    fun off ho ho' => packed24_congr fun i hi => hbyte (off + i) (by omega) (by omega)
  simp only [Machine.withMotion, hpair, hgyro, Nat.reduceLeDiff, Nat.reduceLT]

/-- The decoded frame is a function of the used bits and the variant (R140, R142). -/
theorem AgreeOnUsedBits.decodeFrame {v : Variant} {b b' : Nat → Byte} (h : AgreeOnUsedBits v b b')
    (pos : Fin 17 → Fin 32) : decodeFrame pos b v = decodeFrame pos b' v := by
  cases v with
  | basic => exact h.decodeBasic pos
  | extended => rw [Machine.decodeFrame, Machine.decodeFrame, h.decodeBasic pos, h.withMotion]

/-- Settles O31. -/
theorem decodeIgnoresUnreadBits : Obligations.DecodeIgnoresUnreadBits := by
  intro s s' t t' ha hl ha' hl' hv hbits e e'
  have hagree : AgreeOnUsedBits s.variant s.fbByte s'.fbByte := hbits
  cases (exec_decode_of_ready ha hl).symm.trans e
  cases (exec_decode_of_ready ha' hl').symm.trans e'
  rw [State.commitFrame_frame, State.commitFrame_frame, State.setFrame_frame, State.setFrame_frame, ← hv,
    hagree.decodeFrame]

end Sys2Proof.Machine
end

section
/-! SUPPORT. NOP, a refused ATTACH and DETACH, and what a cycle does to CFG (R24, R160 to R163, R172). -/

namespace Sys2Proof.Machine

/-! ### The control commands (R160 to R162) -/

theorem exec_nop (s : State) : exec .nop s = .next (s.finish .ok) := rfl

/-- In an open lifetime ATTACH only reports ALREADY_ATTACHED, whatever its code (R161, R172). -/
theorem exec_attach_of_attached {s : State} (ha : s.attached = true) (v : Nat) :
    exec (.attach v) s = .next (s.finish .alreadyAttached) := by
  rcases execAttach_cases v s with ⟨-, e⟩ | ⟨h, -⟩ | ⟨h, -⟩
  · exact e
  · cases ha.symm.trans h
  · cases ha.symm.trans h

/-- With no lifetime open ATTACH of a reserved code only reports BAD_VARIANT (R161). -/
theorem exec_attach_of_reserved {s : State} {v : Nat} (ha : s.attached = false) (hv : 2 ≤ v) :
    exec (.attach v) s = .next (s.finish .badVariant) := by
  rcases execAttach_cases v s with ⟨h, -⟩ | ⟨-, -, e⟩ | ⟨-, h, -⟩
  · cases ha.symm.trans h
  · exact e
  · omega

/-- CFG reads 0 with no lifetime open and VARIANT 0 (R24). -/
theorem cfgWord_of_closed {s : State} (ha : s.attached = false) (hv : s.variant = .basic) : s.cfgWord = 0 := by
  rw [State.cfgWord, ha, hv]; rfl

/-- Settles O33. -/
theorem nopOnlyReportsOk : Obligations.NopOnlyReportsOk := by
  intro s
  exact ⟨_, exec_nop s, succeeded_finish rfl, rfl, rfl, ⟨rfl, rfl⟩, ⟨rfl, rfl⟩, exec_keepsSurroundings (exec_nop s)⟩

/-- Settles O35. -/
theorem attachRefusesReattachAndReservedVariant : Obligations.AttachRefusesReattachAndReservedVariant := by
  constructor
  · intro s v ha
    exact ⟨_, exec_attach_of_attached ha v, failed_finish s (by decide)⟩
  · intro s v ha hv
    exact ⟨_, exec_attach_of_reserved ha hv, failed_finish s (by decide)⟩

/-- Settles O36. -/
theorem detachClosesLifetime : Obligations.DetachClosesLifetime := by
  intro s
  exact ⟨_, exec_detach s, rfl, rfl, cfgWord_of_closed rfl rfl, succeeded_finish rfl, rfl, rfl, ⟨rfl, rfl⟩,
    exec_keepsSurroundings (exec_detach s)⟩

/-! ### The lifetime through a cycle (R163) -/

/-- What a completion does to CFG: nothing, or it ends with OK and opens a lifetime where none was open, or ends with OK
and leaves none open (R161 to R163). -/
theorem completeCommand_lifetime {s t : State} {c : Command} (e : completeCommand c s = .next t) :
    KeepsLifetime s t ∨
    (t.cmdDone = true ∧ t.errCode = .ok ∧ s.attached = false ∧ t.attached = true) ∨
    (t.cmdDone = true ∧ t.errCode = .ok ∧ t.attached = false ∧ t.variant = .basic) := by
  rcases completeCommand_cases c s with ⟨i, -, ei⟩ | ⟨-, ei⟩
  · rcases exec_cases i s with ⟨_, -, e'⟩ | ⟨_, _, _, -, e'⟩ | ⟨-, -, -, e'⟩ | ⟨_, -, ha, e'⟩ | ⟨-, e'⟩ | ⟨-, e'⟩ <;>
      cases (ei.trans e').symm.trans e
    · exact .inl ⟨rfl, rfl⟩
    · exact .inl ⟨rfl, rfl⟩
    · exact .inl ⟨rfl, rfl⟩
    · exact .inr (.inl ⟨rfl, rfl, ha, rfl⟩)
    · exact .inr (.inr ⟨rfl, rfl, rfl, rfl⟩)
    · exact .inl ⟨rfl, rfl⟩
  · cases ei.symm.trans e
    exact .inl ⟨rfl, rfl⟩

/-- The port's part of a cycle leaves CFG (R71). -/
theorem cyclePort_keepsLifetime (s : State) : KeepsLifetime s (portCycle s.beginCycle) := ⟨by simp, by simp⟩

/-- What a cycle does to CFG: nothing, reset, or what its completion does (R163, R173). -/
theorem step_lifetime {s t : State} (e : step s = .next t) :
    KeepsLifetime s t ∨
    (s.rstAsserted = true ∧ t.attached = false ∧ t.variant = .basic) ∨
    (t.cmdDone = true ∧ t.errCode = .ok ∧ s.attached = false ∧ t.attached = true) ∨
    (t.cmdDone = true ∧ t.errCode = .ok ∧ t.attached = false ∧ t.variant = .basic) := by
  have hport := cyclePort_keepsLifetime s
  rcases step_cases s with ⟨hr, e'⟩ | ⟨-, -, e'⟩ | ⟨-, -, -, e'⟩ | ⟨-, c, -, -, e'⟩
  · cases e'.symm.trans e
    exact .inr (.inl ⟨hr, rfl, rfl⟩)
  · cases e'.symm.trans e
    exact .inl hport
  · cases e'.symm.trans e
    exact .inl ⟨hport.attached, hport.variant⟩
  · rcases completeCommand_lifetime (e'.symm.trans e) with hk | hopen | hclose
    · exact .inl ⟨hk.attached.trans hport.attached, hk.variant.trans hport.variant⟩
    · rw [hport.attached] at hopen
      exact .inr (.inr (.inl hopen))
    · exact .inr (.inr (.inr hclose))

/-- Settles O41: of the four things a cycle can do to CFG, three begin or end outside a lifetime, and the fourth is
nothing. -/
theorem variantFixedForTheLifetime : Obligations.VariantFixedForTheLifetime := by
  intro s t e
  rcases step_lifetime e with hk | ⟨hr, ht, hv⟩ | hopen | hclose
  · exact ⟨fun _ _ => hk.variant, fun hne => absurd hk.variant hne⟩
  · exact ⟨fun _ ht' => absurd ht' (by simp [ht]), fun _ => .inl ⟨hr, hv⟩⟩
  · have ⟨_, _, hs, _⟩ := hopen
    exact ⟨fun hs' => absurd hs' (by simp [hs]), fun _ => .inr (.inl hopen)⟩
  · have ⟨_, _, ht, _⟩ := hclose
    exact ⟨fun _ ht' => absurd ht' (by simp [ht]), fun _ => .inr (.inr hclose)⟩

end Sys2Proof.Machine
end

section
/-! SUPPORT. What every completion reports, and the cycles that perform nothing: an idle one and a reset (R171, R173,
R175, R181, R190). -/

namespace Sys2Proof.Machine

/-! ### Every completion fails or succeeds (R171) -/

/-- `t` reports a failure on `s` with a nonzero code, or a success with code 0. -/
def Reports (s t : State) : Prop :=
  (t.errCode ≠ .ok ∧ Failed t.errCode s t) ∨ (t.errCode = .ok ∧ Succeeded s t)

/-- A legal command ends with an error on the state it found, or with a success. -/
theorem exec_reports (i : Instr) (s : State) :
    ∃ t, exec i s = .next t ∧ Reports s t := by
  rcases exec_cases i s with ⟨_, hc, e⟩ | ⟨_, _, _, -, e⟩ | ⟨-, -, -, e⟩ | ⟨_, -, -, e⟩ | ⟨-, e⟩ | ⟨-, e⟩
  · exact ⟨_, e, .inl ⟨hc, failed_finish s hc⟩⟩
  · exact ⟨_, e, .inr ⟨rfl, succeeded_finish rfl⟩⟩
  · exact ⟨_, e, .inr ⟨rfl, succeeded_commitFrame rfl⟩⟩
  · exact ⟨_, e, .inr ⟨rfl, succeeded_finish rfl⟩⟩
  · exact ⟨_, e, .inr ⟨rfl, succeeded_finish rfl⟩⟩
  · exact ⟨_, e, .inr ⟨rfl, succeeded_finish rfl⟩⟩

/-- So does whatever a CMD write issued: an illegal command fails with ILLEGAL_OP (R84). -/
theorem completeCommand_reports (c : Command) (s : State) :
    ∃ t, completeCommand c s = .next t ∧ Reports s t := by
  rcases completeCommand_cases c s with ⟨i, -, e⟩ | ⟨-, e⟩
  · rw [e]
    exact exec_reports i s
  · have hc : ResultCode.illegalOp ≠ .ok := by decide
    exact ⟨_, e, .inl ⟨hc, failed_finish s hc⟩⟩

/-- Settles O38: the code of the completion tells its two reports apart. -/
theorem failureWritesOnlyStatus : Obligations.FailureWritesOnlyStatus := by
  intro s c
  obtain ⟨t, e, ⟨hc, hfail⟩ | ⟨hc, hsucc⟩⟩ := completeCommand_reports c s
  · exact ⟨t, e, fun _ => hfail, fun h => absurd h hc⟩
  · exact ⟨t, e, fun h => absurd hc h, fun _ => hsucc⟩

/-! ### A step always goes on, and an idle one changes nothing (R175, R181) -/

/-- Every state has a next one, since every completion ends (R175, log 18). -/
theorem step_total (s : State) : ∃ t, step s = .next t := by
  rcases step_cases s with ⟨-, e⟩ | ⟨-, -, e⟩ | ⟨-, -, -, e⟩ | ⟨-, c, -, -, e⟩
  · exact ⟨_, e⟩
  · exact ⟨_, e⟩
  · exact ⟨_, e⟩
  · obtain ⟨t, ht, -⟩ := completeCommand_ends c (portCycle s.beginCycle)
    exact ⟨t, e.trans ht⟩

/-- With nothing requested, at most the queue moves on (R63). -/
theorem portCycle_of_no_request {s : State} (h : s.hostQueue = [] ∨ ∃ q, s.hostQueue = .idle :: q) :
    ∃ q, portCycle s = s.skipIdle q := by
  rcases h with h | ⟨q, h⟩
  · have hkeep : s.skipIdle s.hostQueue = s := rfl
    exact ⟨s.hostQueue, by rw [hkeep, portCycle, h]⟩
  · exact ⟨q, by rw [portCycle, h]⟩

/-- A cycle without reset whose port leaves nothing pending ends with the port's part. -/
theorem step_of_nothing_pending {s : State} (hr : s.rstAsserted = false)
    (hp : (portCycle s.beginCycle).pending = none) : step s = .next (portCycle s.beginCycle) := by
  rw [step_eq_advance hr, advance, hp]

/-- Settles O45. -/
theorem everyStepGoesOnAndIdlenessKeepsState : Obligations.EveryStepGoesOnAndIdlenessKeepsState := by
  refine ⟨step_total, fun s hr hp hq => ?_⟩
  obtain ⟨q, hport⟩ := portCycle_of_no_request (s := s.beginCycle) hq
  have hstep := step_of_nothing_pending hr (by rw [hport]; exact hp)
  rw [hport] at hstep
  exact ⟨_, hstep, { SameRegisters.refl s with }, rfl, rfl, rfl⟩

/-! ### A reset cycle (R173, R190) -/

theorem step_of_reset {s : State} (hr : s.rstAsserted = true) : step s = .next s.resetCycle := by
  rw [step, clockEdge, if_pos hr]

/-- STATUS reads 0 with nothing pending, ERR_ANY clear and the code 0 (R25). -/
theorem statusWord_of_cleared {s : State} (hp : s.pending = none) (ha : s.errAny = false) (hc : s.errCode = .ok) :
    s.statusWord = 0 := by
  rw [State.statusWord, State.busy_eq, hp, ha, hc]
  rfl

/-- After a reset every address past the FB window reads 0 (R190). -/
theorem hostRead_resetCycle (s : State) {a : BitVec 6} (h : 32 ≤ a.toNat) : hostRead s.resetCycle a = 0 := by
  by_cases hframe : 38 ≤ a.toNat
  · by_cases hmap : a.toNat ≤ 59
    · exact hostRead_of_frame_cleared rfl hframe hmap
    · exact hostRead_reserved _ (by omega)
  · obtain ⟨k, rfl, hk, hk'⟩ : ∃ k, a = BitVec.ofNat 6 k ∧ 32 ≤ k ∧ k < 38 := ⟨a.toNat, by simp, h, by omega⟩
    clear h hframe
    interval_cases k
    · exact hostRead_32 _
    · exact (hostRead_33 _).trans (statusWord_of_cleared rfl rfl rfl)
    · exact hostRead_34 _
    · exact (hostRead_35 _).trans (cfgWord_of_closed rfl rfl)
    · exact hostRead_36 _
    · exact hostRead_37 _

/-- After a reset no byte of FB is written, so each reads as the draw of that reset (R22, log 4). -/
theorem fbByte_resetCycle (s : State) (a : Nat) : s.resetCycle.fbByte a = Config.fbDraw (s.resets + 1) a := by
  have hunwritten : s.resetCycle.fbWritten.getLsbD a = false := BitVec.getLsbD_zero
  rw [State.fbByte, hunwritten]
  rfl

/-- Settles O58. -/
theorem resetCycleAbandonsEverything : Obligations.ResetCycleAbandonsEverything := by
  intro s hr
  exact ⟨_, step_of_reset hr, rfl, rfl, rfl, rfl, rfl, fun _ h => hostRead_resetCycle s h, fbByte_resetCycle s⟩

end Sys2Proof.Machine
end

section
/-! SUPPORT. The state right after reset (R190, R191): it is what a reset cycle leaves, but for the counter of resets, and
that counter shows in the draws of FB alone (log 4). -/

namespace Sys2Proof.Machine

/-- A reset cycle from the reset state leaves that state, with one more reset counted. -/
theorem reset_eq_resetCycle : State.reset = { State.reset.resetCycle with resets := 0 } := rfl

/-- Past the FB window a read does not depend on how many resets have happened (R66, log 4). -/
theorem hostRead_resets (s : State) (n : Nat) {a : BitVec 6} (h : 32 ≤ a.toNat) :
    hostRead { s with resets := n } a = hostRead s a := by
  have hpast : ¬ byteAddr a < 0x80 := by
    rw [byteAddr]
    omega
  rw [hostRead, hostRead, if_neg hpast, if_neg hpast]
  rfl

/-- Settles O57: past FB the reset state reads as the state after a reset cycle does. -/
theorem resetClearsEveryRegister : Obligations.ResetClearsEveryRegister := by
  have hreads (a : BitVec 6) (h : 32 ≤ a.toNat) : hostRead State.reset a = 0 := by
    rw [reset_eq_resetCycle, hostRead_resets _ _ h]
    exact hostRead_resetCycle State.reset h
  exact ⟨hreads, rfl, rfl, rfl, rfl, rfl, rfl⟩

/-- Settles O59: no clause of the invariant speaks of the counter of resets, so what a reset cycle leaves decides. -/
theorem resetMeetsInvariant : Obligations.ResetMeetsInvariant := { inv_resetCycle State.reset with }

end Sys2Proof.Machine
end
